-- ==== Sys2Proof/Word.lean ====
section
/-! DEFINITION. The word types of the TL4608 model: bytes of the host port and of the line, round numbers,
byte times of the station line, and moments of the part's time base. -/

namespace Sys2Proof

/-- A byte of the host port or of the station line. -/
abbrev Byte := BitVec 8

/-- A run of bytes in the order in which they are sent or stored. -/
abbrev Bytes := List Byte

/-- A round number: the round counter runs from 0 to 2^32 - 1 and wraps (R39). -/
abbrev Round := BitVec 32

/-- One byte time of the station line: bit i is the level of its i-th bit time, 1 for high (R1, R2). -/
abbrev ByteTime := BitVec 10

/-- A moment or a duration of the model's time: a number of thirty-seconds of a microsecond
(DESIGN CHOICE, log 2: at 1, 2, 4, 8 and 16 Mbit/s every half bit time is a whole number of them). -/
abbrev Time := Nat

/-- A channel within a station, 0 to 3 (spec/00_scope.md, Terms). -/
abbrev Channel := Fin 4

/-- A station address with a station record, 0 to 7. -/
abbrev StationId := Fin 8

/-- A segment index, 0 to 31 (R40). -/
abbrev SegmentIndex := Fin 32

/-- A source of the Event Table, 0 to 47 (R148). -/
abbrev SourceId := Fin 48

end Sys2Proof
end

