-- ==== Sys2Proof/Config.lean ====
section
/-! DEFINITION. What the part fixes: its identification and the capacities that IDENTIFY returns (R171),
with the bounds the rules state for its queues. The spec leaves no result undefined, so there is no free
value here (log 20). -/

namespace Sys2Proof.Config

/-- part code (R171). -/
def partCode : Nat := 0x4608
/-- silicon revision (R171). -/
def siliconRevision : Nat := 2
/-- stations (R171): addresses 0 to 7. -/
def stationCount : Nat := 8
/-- channels per station (R171). -/
def channelCount : Nat := 4
/-- segment records (R40, R171). -/
def segmentRecords : Nat := 32
/-- segment payload store in bytes (R40, R171). -/
def segmentStore : Nat := 4096
/-- transaction records (R55, R171). -/
def transactionRecords : Nat := 48
/-- host admission limit (R55, R171). -/
def admissionLimit : Nat := 40
/-- inbound messages (R131, R171). -/
def inboundMessages : Nat := 16
/-- inbound payload bytes (R131, R171). -/
def inboundBytes : Nat := 2048
/-- reports (R141, R171). -/
def reportCapacity : Nat := 88
/-- event sources (R148, R171). -/
def eventSources : Nat := 48
/-- reply queue (R163, R171). -/
def replyQueue : Nat := 4
/-- largest host frame body in bytes (R159, R171). -/
def largestBody : Nat := 1028

end Sys2Proof.Config
end

