-- ==== Sys2Proof/Syntax.lean ====
section
/-! DEFINITION. The commands of the TL4608: one constructor per row of spec/opcode_table.json.
The rows carry no fields, so the operands are those the spec's rules give the events. -/

namespace Sys2Proof

/-- What ends a hold in reset (R175). -/
inductive ReleaseCause where
  /-- The RESET pin goes high. -/
  | pinHigh
  /-- The supply and CLK25 become present. -/
  | powerGood
  /-- The 10 microsecond hold of a RESET DEVICE reset ends. -/
  | holdEnd
deriving DecidableEq, Repr

/-- The commands. A request is a good host frame of its kind, given by its tag and its body bytes (R159, R178);
the four other fates of a good frame carry its kind byte too. -/
inductive Instr where
  /-- IDENTIFY (R171). -/
  | identify (tag : Byte) (body : Bytes)
  /-- RESET DEVICE (R174). -/
  | resetDevice (tag : Byte) (body : Bytes)
  /-- CONFIGURE LINE (R22). -/
  | configureLine (tag : Byte) (body : Bytes)
  /-- READ LINE (R172). -/
  | readLine (tag : Byte) (body : Bytes)
  /-- CONFIGURE ROUND (R47). -/
  | configureRound (tag : Byte) (body : Bytes)
  /-- READ ROUND (R173). -/
  | readRound (tag : Byte) (body : Bytes)
  /-- DEFINE SEGMENT (R41). -/
  | defineSegment (tag : Byte) (body : Bytes)
  /-- DELETE SEGMENT (R42). -/
  | deleteSegment (tag : Byte) (body : Bytes)
  /-- UPDATE SEGMENT (R43). -/
  | updateSegment (tag : Byte) (body : Bytes)
  /-- READ SEGMENT (R44). -/
  | readSegment (tag : Byte) (body : Bytes)
  /-- START (R25, R26). -/
  | start (tag : Byte) (body : Bytes)
  /-- STOP (R29). -/
  | stop (tag : Byte) (body : Bytes)
  /-- CONFIGURE STATION (R127). -/
  | configureStation (tag : Byte) (body : Bytes)
  /-- ENABLE STATION (R125). -/
  | enableStation (tag : Byte) (body : Bytes)
  /-- DISABLE STATION (R126). -/
  | disableStation (tag : Byte) (body : Bytes)
  /-- READ STATION (R128). -/
  | readStation (tag : Byte) (body : Bytes)
  /-- SUBMIT (R53, R54). -/
  | submit (tag : Byte) (body : Bytes)
  /-- CANCEL (R61). -/
  | cancel (tag : Byte) (body : Bytes)
  /-- READ QUEUE (R66). -/
  | readQueue (tag : Byte) (body : Bytes)
  /-- CONFIGURE INBOUND (R136). -/
  | configureInbound (tag : Byte) (body : Bytes)
  /-- TAKE MESSAGES (R137). -/
  | takeMessages (tag : Byte) (body : Bytes)
  /-- FETCH REPORTS (R145). -/
  | fetchReports (tag : Byte) (body : Bytes)
  /-- ACK REPORTS (R147). -/
  | ackReports (tag : Byte) (body : Bytes)
  /-- READ EVENTS (R154). -/
  | readEvents (tag : Byte) (body : Bytes)
  /-- ACK EVENT (R152). -/
  | ackEvent (tag : Byte) (body : Bytes)
  /-- MASK EVENTS (R153). -/
  | maskEvents (tag : Byte) (body : Bytes)
  /-- UNKNOWN_REQUEST: a good frame whose kind is none of the 26 (R162 step 3). -/
  | unknownRequest (tag kind : Byte) (body : Bytes)
  /-- REPEAT: a good frame that matches the repeat record (R162 step 2, R166). -/
  | repeatRequest (tag kind : Byte) (body : Bytes)
  /-- BACKLOG: a good frame while the reply queue holds 4 replies (R162 step 1). -/
  | backlog (tag kind : Byte) (body : Bytes)
  /-- REQUEST_DISCARDED_BEFORE_RESET: a good frame while a RESET DEVICE reply is pending (R167). -/
  | requestDiscardedBeforeReset (tag kind : Byte) (body : Bytes)
  /-- CHECK: a complete frame whose two check bytes, `chk`, do not match (R161). -/
  | check (tag kind : Byte) (body : Bytes) (chk : BitVec 16)
  /-- OVERSIZE: the second length byte completes the length `len` (R161). -/
  | oversize (len : BitVec 16)
  /-- TIMEOUT: 2000 microseconds without a byte inside a frame, UART mode (R161). -/
  | timeout
  /-- CS_RISE: the end of an SPI transfer (R161, R164). -/
  | csRise
  /-- REPLY_LEAVES_QUEUE: the last byte of the head reply has been sent (R163). -/
  | replyLeavesQueue
  /-- RESET_PIN_LOW (R175). -/
  | resetPinLow
  /-- POWER_ON (R175). -/
  | powerOn
  /-- RESET_RELEASE: one cause of the hold ends; the levels of MODE and BAUD at that moment, true for high (R156, R175). -/
  | resetRelease (cause : ReleaseCause) (modeHigh baudHigh : Bool)
  /-- SETTLE_TIMER_EXPIRY (R27). -/
  | settleTimerExpiry
  /-- TRIG_EDGE: a rising edge on TRIG (R33, R34). -/
  | trigEdge
  /-- ROUND_START (R28). -/
  | roundStart
  /-- SEGMENT_FRAME: a segment's scheduled START time (R36). -/
  | segmentFrame
  /-- GAP_OPENING: a gap's scheduled opening (R37). -/
  | gapOpening
  /-- GAP_END: the open gap's end is reached (R72). -/
  | gapEnd
  /-- ROUND_END_STOPPING: the end of the STOPPING round (R30). -/
  | roundEndStopping
  /-- FRAME_SENT: the closing symbol of a master frame has been sent (R14). -/
  | frameSent
  /-- CONTENTION: LINE_SENSE reads a level, true for high, in the middle of a bit time of the frame being sent, numbered
  from 0 (R18, R19, R20); where none is given, a low level in the first bit time. -/
  | contention (bit : Nat := 0) (high : Bool := false)
  /-- GUARD_END: G bit times after TURN (R94). -/
  | guardEnd
  /-- STATION_START: a falling edge on LINE_SENSE, and the number of full bit times for which the line then stays low; where
  none is given, the ten of a START (R2, R15). -/
  | stationStart (low : Nat := 10)
  /-- RESPONSE_TIMER_EXPIRY (R95). -/
  | responseTimerExpiry
  /-- DECODED_FRAME: a station frame ends; its byte times after START, the one that ends it last (R2, R11). -/
  | decodedFrame (byteTimes : List ByteTime)
  /-- TALK_LIMIT_EXPIRY (R102). -/
  | talkLimitExpiry
  /-- RECLAIM_END (R17, R103). -/
  | reclaimEnd
  /-- LINE_FAULT: what LINE_SENSE reads in QUIET in successive bit times, true for high; the stuck-line count may reach
  stuck_time (R21, R31). Where none are given, low for the longest stuck_time. -/
  | lineFault (levels : List Bool := List.replicate 4095 false)
  /-- PARSER_BYTE_TAKEN: the host sends one byte (R160). -/
  | parserByteTaken (byte : Byte)
deriving DecidableEq, Repr

end Sys2Proof
end

