-- ==== Sys2Proof/Machine/Bytes.lean ====
section
/-! DEFINITION. Byte order of the host port: little-endian fields read from a body and written into a reply (R176). -/

namespace Sys2Proof.Machine

/-- The 1-byte field at offset `i` of a body. -/
def u8 (b : Bytes) (i : Nat) : Nat := (b.getD i 0).toNat

/-- The 2-byte field at offset `i` of a body, low-order byte first (R176). -/
def u16 (b : Bytes) (i : Nat) : Nat := u8 b i + 256 * u8 b (i + 1)

/-- A 1-byte field. -/
def le1 (n : Nat) : Bytes := [BitVec.ofNat 8 n]

/-- A 2-byte field, low-order byte first (R176). -/
def le2 (n : Nat) : Bytes := [BitVec.ofNat 8 n, BitVec.ofNat 8 (n / 256)]

/-- A 4-byte field, low-order byte first (R176). -/
def le4 (n : Nat) : Bytes :=
  [BitVec.ofNat 8 n, BitVec.ofNat 8 (n / 256), BitVec.ofNat 8 (n / 65536), BitVec.ofNat 8 (n / 16777216)]

/-- Bit `i` of a field of flags: its weight when set. -/
def bitWeight (set : Bool) (i : Nat) : Nat := if set then 2 ^ i else 0

/-- A 1-byte yes or no. -/
def leBool (b : Bool) : Bytes := le1 (bitWeight b 0)

end Sys2Proof.Machine
end

