-- ==== Sys2Proof/Machine/Crc.lean ====
section
/-! DEFINITION. The 16-bit CRC of the line payloads and of the host frames (R10, R159). -/

namespace Sys2Proof.Machine

/-- One shift of the CRC register with the generator x^16 + x^12 + x^5 + 1 (R10). -/
def crcShift (r : BitVec 16) : BitVec 16 :=
  if r.msb then (r <<< 1) ^^^ 0x1021#16 else r <<< 1

/-- One byte fed in, most significant bit first (R10). -/
def crcByte (r : BitVec 16) (b : Byte) : BitVec 16 :=
  crcShift (crcShift (crcShift (crcShift (crcShift (crcShift (crcShift (crcShift
    (r ^^^ (b.zeroExtend 16 <<< 8)))))))))

/-- The CRC of a run of bytes: the register starts at 0xFFFF, nothing is reflected or inverted (R10). -/
def crc16 (b : Bytes) : BitVec 16 := b.foldl crcByte 0xFFFF#16

/-- The check of a host frame, over its length, tag, kind and body bytes in order (R159). -/
def frameCheck (tag kind : Byte) (body : Bytes) : BitVec 16 :=
  crc16 (le2 (body.length + 2) ++ tag :: kind :: body)

/-- The bytes of a host frame: start, length, tag, kind, body, check low-order byte first (R159, R176). -/
def frameBytes (tag kind : Byte) (body : Bytes) : Bytes :=
  0xA5#8 :: (le2 (body.length + 2) ++ tag :: kind :: (body ++ le2 (frameCheck tag kind body).toNat))

end Sys2Proof.Machine
end

