-- ==== Sys2Proof/Machine/State.lean ====
section
/-! DEFINITION. The state of the TL4608, block by block (INVENTORY.md, State), as plain data; its value right
after a device reset; and the reasons a step can stop (there are none of the spec's). -/

namespace Sys2Proof.Machine

/-! ### The Host Port's types -/

/-- The port mode sampled from the MODE strap (R156). -/
inductive PortMode where
  | spi
  | uart
deriving DecidableEq, Repr

/-- The statuses of a reply (R168). -/
inductive Status where
  | ok
  | unknownRequest
  | badLength
  | badValue
  | wrongState
  | queueFull
  | duplicateId
  | stationUnavailable
  | badChannel
  | neverFits
  | notFound
  | lengthMismatch
  | tableFull
  | tableOverrun
  | reportUnread
deriving DecidableEq, Repr

/-- One reply: its envelope bytes, its status, its REPEAT flag and the request-specific fields (R159, R168). -/
structure Reply where
  tag : Byte
  /-- The reply kind: the request kind + 0x80, modulo 256 (R159). -/
  kind : Byte
  status : Status
  repeated : Bool
  fields : Bytes
deriving DecidableEq, Repr

/-- The repeat record, when present (R166). -/
structure RepeatRecord where
  tag : Byte
  check : BitVec 16
  reply : Reply
deriving DecidableEq, Repr

/-- The parser's phase with the bytes of the frame in progress (R160). -/
inductive Parser where
  /-- HUNTING. -/
  | hunting
  /-- LENGTH, with the first length byte once it has been taken. -/
  | length (low : Option Byte)
  /-- CONTENT: the frame's length, and the tag, kind and body bytes stored so far. -/
  | content (len : Nat) (got : Bytes)
  /-- CHECK: the stored content, and the first check byte once it has been taken. -/
  | check (content : Bytes) (low : Option Byte)
deriving DecidableEq, Repr

/-- What the Host Port holds (R156, R160, R163, R164, R166). -/
structure HostPort where
  mode : PortMode
  /-- The BAUD strap as sampled, true for high (R156). -/
  baudHigh : Bool
  /-- The CS pin is low: an SPI transfer is in progress (R157). -/
  csLow : Bool
  parser : Parser
  /-- The moment at which the last host byte was received (R161, TIMEOUT). -/
  lastByteAt : Time
  /-- The reply queue, oldest first (R163). -/
  replies : List Reply
  /-- The output position of the head reply in the present transfer (R164). -/
  outPos : Nat
  /-- The moment at which the head reply became the head (R165). -/
  headSince : Time
  repeatRecord : Option RepeatRecord
deriving DecidableEq, Repr

/-- What holds the part in reset (R175). -/
structure Hold where
  /-- The RESET pin is low. -/
  pinLow : Bool
  /-- The supply or the CLK25 reference is absent. -/
  powerAbsent : Bool
  /-- The end of the 10 microsecond hold of a RESET DEVICE reset, while it runs. -/
  holdEnd : Option Time
deriving DecidableEq, Repr

/-! ### The line's types -/

/-- The thirteen frame kinds (R5). -/
inductive FrameKind where
  | sync
  | segment
  | write
  | read
  | send
  | poll
  | join
  | ack
  | data
  | nothing
  | message
  | ident
  | errorReport
deriving DecidableEq, Repr

/-- The seven header fields (R6); the kind is a 5-bit code, valid or not. -/
structure Header where
  kind : BitVec 5
  seq : Bool
  turn : Bool
  mark : Bool
  station : BitVec 4
  channel : BitVec 2
  length : BitVec 12
deriving DecidableEq, Repr

/-- The class of a received header (R9). -/
inductive HeaderClass where
  | clean
  | corrected
  | uncorrectable
deriving DecidableEq, Repr

/-- The CRC result of a received frame (R10). -/
inductive CrcResult where
  /-- NONE -/
  | absent
  | unchecked
  /-- MATCH -/
  | agrees
  | mismatch
deriving DecidableEq, Repr

/-- The closing recorded for a received frame (R11). -/
inductive Closing where
  /-- END -/
  | ended
  | turn
  | broken
deriving DecidableEq, Repr

/-- A decoded frame as the Line Interface hands it to the Turn Controller (R11). -/
structure DecodedFrame where
  headerClass : HeaderClass
  header : Header
  byteCount : Nat
  overrun : Bool
  payload : Bytes
  crc : CrcResult
  closing : Closing
deriving DecidableEq, Repr

/-- contention_policy (R22). -/
inductive ContentionPolicy where
  | yield
  | persist
deriving DecidableEq, Repr

/-- header_policy (R22). -/
inductive HeaderPolicy where
  | strict
  | lenient
deriving DecidableEq, Repr

/-- The ten line parameters (R22): rate in Mbit/s, turn_guard and stuck_time in bit times, timeouts in microseconds. -/
structure LineConfig where
  rate : Nat
  turnGuard : Nat
  contentionPolicy : ContentionPolicy
  headerPolicy : HeaderPolicy
  /-- crc_check is ON. -/
  crcCheck : Bool
  writeTimeout : Nat
  readTimeout : Nat
  pollTimeout : Nat
  probeTimeout : Nat
  stuckTime : Nat
deriving DecidableEq, Repr

/-- The six line states (section 1.6, READ LINE). -/
inductive LineState where
  | off
  | quiet
  | sending
  | offered
  | listening
  | reclaim
deriving DecidableEq, Repr

/-- The master frame on the line (R7, R13), from its leading idle or START to the end of its closing symbol. -/
structure SendFrame where
  kind : FrameKind
  header : Header
  payload : Bytes
  /-- The first bit time of the leading idle (transaction frames) or of the START. -/
  startAt : Time
  /-- The end of the closing symbol's last bit time. -/
  endAt : Time
  /-- The contention monitor has found this frame's contention (R18, R19). -/
  contended : Bool
deriving DecidableEq, Repr

/-- The receiver in LISTENING (R11, R16, R23). -/
inductive Receiver where
  /-- Holding no frame and waiting for a START, since this moment. -/
  | noFrame (since : Time)
  /-- A station frame is being received; its START began at this moment. -/
  | inFrame (start : Time)
deriving DecidableEq, Repr

/-- The stuck-line monitor while it runs (R21). -/
structure StuckMonitor where
  /-- The end of the last bit time counted; at first the moment at which the line entered QUIET (log 9). -/
  countedTo : Time
  /-- The count: the bit times for which LINE_SENSE has read low without a break. -/
  lows : Nat
deriving DecidableEq, Repr

/-- The line state with what runs in it (R12 to R17). -/
inductive LineActivity where
  | off
  /-- QUIET; the stuck-line monitor runs (R21). -/
  | quiet (monitor : StuckMonitor)
  | sending (frame : SendFrame)
  /-- OFFERED; the moment the guard ends (R15). -/
  | offered (guardEnd : Time)
  | listening (rx : Receiver)
  /-- RECLAIM; the moment it ends (R17, R18). -/
  | reclaim (ends : Time)
deriving DecidableEq, Repr

/-- What the Line Interface holds (R12 to R23). -/
structure LineIface where
  config : LineConfig
  activity : LineActivity
  /-- The contention count, held at 65535 (R20). -/
  contentions : Nat
deriving DecidableEq, Repr

/-! ### The Round Engine's types -/

/-- The five engine states (R24). -/
inductive EngineState where
  | stopped
  | settling
  | running
  | stopping
  | halted
deriving DecidableEq, Repr

/-- The round mode (R47). -/
inductive RoundMode where
  | timed
  | triggered
deriving DecidableEq, Repr

/-- The eight round parameters, in microseconds (R47). -/
structure RoundConfig where
  mode : RoundMode
  period : Nat
  triggerDelay : Nat
  minPeriod : Nat
  maxPeriod : Nat
  settleTime : Nat
  segmentGap : Nat
  minClosing : Nat
deriving DecidableEq, Repr

/-- An address on the line: one station, or broadcast 15 (R40, R49). -/
inductive Target where
  | station (s : StationId)
  | broadcast
deriving DecidableEq, Repr

/-- A Segment Table record (R40). Its length L is the length of its active payload. -/
structure Segment where
  index : SegmentIndex
  destination : Target
  channel : Channel
  active : Bytes
  staged : Option Bytes
  freshness : Nat
  age : Nat
deriving DecidableEq, Repr

/-- The gaps of a round (R37). -/
inductive GapKind where
  | afterSegment (k : SegmentIndex)
  | closing
deriving DecidableEq, Repr

/-- What a round still has to come: segment frames and gap openings at their moments (R36, R37). -/
inductive RoundItem where
  | segment (due : Time) (index : SegmentIndex)
  | gap (due : Time) (kind : GapKind) (ends : Time)
deriving DecidableEq, Repr

/-- What the Round Engine holds (R24, R26, R29, R35, R39, R40). -/
structure Engine where
  state : EngineState
  config : RoundConfig
  counter : Round
  /-- Trigger state: the start of the previous round. -/
  prevStart : Option Time
  /-- Trigger state: the pending round start, fixed by a trigger. -/
  pendingStart : Option Time
  /-- Trigger state: the moment by which a round starts at the latest. -/
  deadline : Option Time
  /-- The settle timer's expiry while it runs (R26). -/
  settleEnd : Option Time
  /-- The end of the STOPPING round (R29). -/
  roundEnd : Option Time
  /-- The rest of the present round's layout (R35 to R37). -/
  agenda : List RoundItem
  /-- The Segment Table in index order (R40). -/
  table : List Segment
deriving DecidableEq, Repr

/-! ### The Transaction List's types -/

/-- Transaction kinds (R49). -/
inductive TxnKind where
  | write
  | read
  | send
  | poll
  | probe
deriving DecidableEq, Repr

/-- Placements (R49). -/
inductive Placement where
  | closing
  | afterSegment (k : SegmentIndex)
  | any
deriving DecidableEq, Repr

/-- The outcomes, in the order of their codes (R58, R176). -/
inductive TxnOutcome where
  | done
  | doneNoted
  | sent
  | refused
  | noResponse
  | replyCorrupt
  | replyCrc
  | replyTruncated
  | replyStale
  | contention
  | cancelled
  | expired
  | stationLost
  | stationDisabled
  | stopped
  | lineFault
  | unplaceable
deriving DecidableEq, Repr

/-- The five flags of an attempt and of a completion (R68, R109). -/
structure TxnFlags where
  headerCorrected : Bool
  headerSuspect : Bool
  crcUnchecked : Bool
  noReturn : Bool
  trailerBad : Bool
deriving DecidableEq, Repr

/-- All flags clear. -/
def TxnFlags.clear : TxnFlags := ⟨false, false, false, false, false⟩

/-- The last attempt result of a record (R49, R57). -/
structure AttemptResult where
  outcome : TxnOutcome
  flags : TxnFlags
  word : Option (BitVec 12)
  data : Bytes
deriving DecidableEq, Repr

/-- The anchoring of a record: earliest, and E when a lifetime is present (R51). -/
structure Anchor where
  earliest : Round
  expiry : Option Round
deriving DecidableEq, Repr

/-- A record of the Transaction List (R49). Internal records are those of kind POLL and PROBE. -/
structure Record where
  id : Nat
  kind : TxnKind
  target : Target
  channel : Channel
  length : Nat
  payload : Bytes
  placement : Placement
  delay : Nat
  lifetime : Option Nat
  retryBudget : Nat
  /-- Present when the record is anchored. -/
  anchor : Option Anchor
  due : Bool
  attempts : Nat
  /-- The state is ON_LINE, not PENDING. -/
  onLine : Bool
  cancelRequested : Bool
  last : Option AttemptResult
deriving DecidableEq, Repr

/-- The open gap (R72). -/
structure OpenGap where
  kind : GapKind
  ends : Time
deriving DecidableEq, Repr

/-- What the Gap Scheduler holds (R72). -/
structure Scheduler where
  openGap : Option OpenGap
  pollsHeld : Bool
deriving DecidableEq, Repr

/-! ### The Turn Controller's types -/

/-- The phase of the current attempt, with the timer that runs in it (R92). IDLE is the absence of an attempt. -/
inductive Phase where
  | sending
  | guard
  /-- WAITING; the moment the response timer expires. -/
  | waiting (expiry : Time)
  /-- RECEIVING; the moment the talk limit expires. -/
  | receiving (limit : Time)
  /-- TRAILER; the moment the talk limit expires. -/
  | trailer (limit : Time)
  /-- IGNORING; the moment the talk limit expires. -/
  | ignoring (limit : Time)
  | reclaiming
deriving DecidableEq, Repr

/-- A judged frame: the decoded frame, and the outcome of the failing check, if one failed (R97, R98). -/
structure Judged where
  frame : DecodedFrame
  failure : Option TxnOutcome
deriving DecidableEq, Repr

/-- The current attempt (R92). -/
structure Attempt where
  phase : Phase
  kind : TxnKind
  target : Target
  channel : Channel
  length : Nat
  payload : Bytes
  /-- T, in bit times. -/
  timeout : Nat
  /-- A, in bit times. -/
  allowance : Nat
  /-- M, for a POLL. -/
  msgLimit : Nat
  sentSeq : Option Bool
  first : Option Judged
  trailer : Option Judged
  provisional : Option TxnOutcome
  flags : TxnFlags
  /-- The report word taken, if one was (R107). -/
  word : Option (BitVec 12)
deriving DecidableEq, Repr

/-! ### The Station Table's types -/

/-- The station states (R112). -/
inductive StationState where
  | disabled
  | offline
  | online
  | suspect
  | resync
deriving DecidableEq, Repr

/-- An identity (R122). -/
structure Identity where
  typeCode : BitVec 16
  revision : Byte
  channels : BitVec 4
  maxLength : Nat
  serialLow : BitVec 16
deriving DecidableEq, Repr

/-- A station record (R112). -/
structure Station where
  state : StationState
  rxMask : BitVec 4
  msgLimit : Nat
  suspectAfter : Nat
  lostAfter : Nat
  probeInterval : Nat
  pollInterval : Nat
  probeDue : Bool
  identity : Option Identity
  seqNext : Bool
  failures : Nat
  lastProbeRound : Round
  lastPollRound : Round
  /-- The last report word and its round. -/
  lastReport : Option (BitVec 12 × Round)
  repliesGood : Nat
  failuresTotal : Nat
  messagesDiscarded : Nat
deriving DecidableEq, Repr

/-! ### The Inbound Queue, the Report Queue and the Event Table -/

/-- A message record (R131). Its length is the length of its payload. -/
structure Message where
  station : StationId
  channel : Channel
  payload : Bytes
  arrival : Round
  headerCorrected : Bool
  headerSuspect : Bool
deriving DecidableEq, Repr

/-- What the Inbound Queue holds (R131, R135). -/
structure Inbound where
  messages : List Message
  threshold : Nat
deriving DecidableEq, Repr

/-- A host frame error, the detail of FRAME_ERROR (R148, R161, R162). -/
inductive FrameError where
  | check
  | cut
  | timeout
  | oversize
  | backlog
deriving DecidableEq, Repr

/-- The detail of an occurrence (R148). -/
inductive Detail where
  | joined
  | recovered
  | outcome (o : TxnOutcome)
  | kind (k : TxnKind)
  | word (w : BitVec 12)
  | segment (k : SegmentIndex)
  | engine (e : EngineState)
  | frame (k : FrameKind)
  | early
  | missing
  | count (n : Nat)
  | station (s : StationId)
  | frameError (e : FrameError)
deriving DecidableEq, Repr

/-- The content of a COMPLETION report (R68). No data is the empty list. -/
structure Completion where
  id : Nat
  kind : TxnKind
  target : Target
  channel : Channel
  outcome : TxnOutcome
  attempts : Nat
  round : Round
  flags : TxnFlags
  word : Option (BitVec 12)
  data : Bytes
deriving DecidableEq, Repr

/-- The content of an EVENT report (R141). -/
structure Event where
  source : SourceId
  count : Nat
  detail : Option Detail
  round : Round
deriving DecidableEq, Repr

/-- The content of a report by its type (R141). -/
inductive ReportBody where
  | completion (c : Completion)
  | event (e : Event)
deriving DecidableEq, Repr

/-- A report (R141). -/
structure Report where
  seq : BitVec 16
  body : ReportBody
deriving DecidableEq, Repr

/-- What the Report Queue holds (R141, R142). -/
structure ReportQueue where
  queue : List Report
  nextSeq : BitVec 16
deriving DecidableEq, Repr

/-- An event source (R149). report_queued is read from the Report Queue. -/
structure Source where
  latched : Bool
  count : Nat
  detail : Option Detail
  lastRound : Round
  masked : Bool
deriving DecidableEq, Repr

/-! ### The state -/

/-- The whole machine. `now` and `pending` are the model's own fields (log 2, log 5). -/
structure State where
  /-- The present moment of the time base (log 2). -/
  now : Time
  /-- The commands waiting, first in first out (log 5). -/
  pending : List Instr
  hold : Hold
  port : HostPort
  line : LineIface
  engine : Engine
  /-- The Transaction List in acceptance order (R49). -/
  txns : List Record
  sched : Scheduler
  /-- The current attempt, if one is on the line (R92). -/
  attempt : Option Attempt
  /-- The Station Table (R112). -/
  stations : Vector Station 8
  inbound : Inbound
  reports : ReportQueue
  /-- The Event Table (R149). -/
  events : Vector Source 48
deriving DecidableEq, Repr

/-- Reasons a step stops with a fault: the spec gives none, every step ends in a next state. -/
inductive Fault where
deriving DecidableEq, Repr

/-- Reasons a step is refused. -/
inductive Refusal where
  /-- A command with no meaning yet, by its row's mnemonic. Raised by `exec`'s refused arms (there are none). Safe. -/
  | notModelled (mnemonic : String)
deriving DecidableEq, Repr

/-! ### The state after a device reset -/

/-- The defaults of the line parameters (R22). -/
def LineConfig.default : LineConfig :=
  { rate := 4, turnGuard := 32, contentionPolicy := .yield, headerPolicy := .strict, crcCheck := true,
    writeTimeout := 50, readTimeout := 100, pollTimeout := 50, probeTimeout := 200, stuckTime := 256 }

/-- The defaults of the round parameters (R47). -/
def RoundConfig.default : RoundConfig :=
  { mode := .timed, period := 1000, triggerDelay := 0, minPeriod := 1000, maxPeriod := 65535,
    settleTime := 200, segmentGap := 0, minClosing := 50 }

/-- The device-reset value of a station record (R112). -/
def Station.reset : Station :=
  { state := .disabled, rxMask := 15, msgLimit := 256, suspectAfter := 3, lostAfter := 8, probeInterval := 16,
    pollInterval := 0, probeDue := false, identity := none, seqNext := false, failures := 0,
    lastProbeRound := 0, lastPollRound := 0, lastReport := none,
    repliesGood := 0, failuresTotal := 0, messagesDiscarded := 0 }

/-- The device-reset value of an event source (R149). -/
def Source.reset : Source :=
  { latched := false, count := 0, detail := none, lastRound := 0, masked := false }

/-- The Host Port after a device reset (R167). The strap readings SPI and BAUD low, CS high and the two
moments 0 are DESIGN CHOICE (log 12, log 13). -/
def HostPort.reset : HostPort :=
  { mode := .spi, baudHigh := false, csLow := false, parser := .hunting, lastByteAt := 0, replies := [],
    outPos := 0, headSince := 0, repeatRecord := none }

/-- The Round Engine after a device reset (R24). -/
def Engine.reset : Engine :=
  { state := .stopped, config := .default, counter := 0, prevStart := none, pendingStart := none,
    deadline := none, settleEnd := none, roundEnd := none, agenda := [], table := [] }

/-- The machine right after a reset has been released (R175, table "State after a device reset"; log 12, log 13). -/
def State.reset : State :=
  { now := 0
    pending := []
    hold := { pinLow := false, powerAbsent := false, holdEnd := none }
    port := .reset
    line := { config := .default, activity := .off, contentions := 0 }
    engine := .reset
    txns := []
    sched := { openGap := none, pollsHeld := false }
    attempt := none
    stations := Vector.replicate 8 .reset
    inbound := { messages := [], threshold := 1 }
    reports := { queue := [], nextSeq := 1 }
    events := Vector.replicate 48 .reset }

/-! ### One update per field -/

/-- Replace the present moment. -/
def State.setNow (s : State) (v : Time) : State := { s with now := v }
/-- Replace the queue of commands. -/
def State.setPending (s : State) (v : List Instr) : State := { s with pending := v }
/-- Replace the hold in reset. -/
def State.setHold (s : State) (v : Hold) : State := { s with hold := v }
/-- Replace the Host Port. -/
def State.setPort (s : State) (v : HostPort) : State := { s with port := v }
/-- Replace the Line Interface. -/
def State.setLine (s : State) (v : LineIface) : State := { s with line := v }
/-- Replace the Round Engine. -/
def State.setEngine (s : State) (v : Engine) : State := { s with engine := v }
/-- Replace the Transaction List. -/
def State.setTxns (s : State) (v : List Record) : State := { s with txns := v }
/-- Replace the Gap Scheduler. -/
def State.setSched (s : State) (v : Scheduler) : State := { s with sched := v }
/-- Replace the current attempt. -/
def State.setAttempt (s : State) (v : Option Attempt) : State := { s with attempt := v }
/-- Replace the Station Table. -/
def State.setStations (s : State) (v : Vector Station 8) : State := { s with stations := v }
/-- Replace the Inbound Queue. -/
def State.setInbound (s : State) (v : Inbound) : State := { s with inbound := v }
/-- Replace the Report Queue. -/
def State.setReports (s : State) (v : ReportQueue) : State := { s with reports := v }
/-- Replace the Event Table. -/
def State.setEvents (s : State) (v : Vector Source 48) : State := { s with events := v }

end Sys2Proof.Machine
end

