-- ==== Sys2Proof/Machine/LineCode.lean ====
section
/-! DEFINITION. The station line's codes: symbols (R2), frame kinds (R5, R181), the header code word (R8, R9, R181),
the bytes of a master frame (R3, R7, R10) and the decoding of a station frame (R2, R9, R10, R11). -/

namespace Sys2Proof.Machine

/-! ### Symbols -/

/-- What a byte time inside a frame is decoded as (R2). -/
inductive Symbol where
  | data (b : Byte)
  | idle
  | start
  | ended
  | turn
  | invalid
deriving DecidableEq, Repr

/-- The pattern of IDLE: high throughout (R2). -/
def idlePattern : ByteTime := 0x3FF#10
/-- The pattern of START: low throughout (R2). -/
def startPattern : ByteTime := 0x000#10
/-- The pattern of END: low, eight high, low (R2). -/
def endPattern : ByteTime := 0x1FE#10
/-- The pattern of TURN: low, four high, five low (R2). -/
def turnPattern : ByteTime := 0x01E#10

/-- The byte time of a data byte: start bit low, data least significant bit first, stop bit high (R1). -/
def dataByteTime (b : Byte) : ByteTime := 0x200#10 ||| (b.zeroExtend 10 <<< 1)

/-- The classification of a byte time inside a frame (R2). -/
def decodeByteTime (t : ByteTime) : Symbol :=
  if t.getLsbD 9 = true ∧ t.getLsbD 0 = false then .data (t.extractLsb' 1 8)
  else if t = idlePattern then .idle
  else if t = startPattern then .start
  else if t = endPattern then .ended
  else if t = turnPattern then .turn
  else .invalid

/-! ### Frame kinds -/

/-- The 5-bit code of a frame kind (R181). -/
def FrameKind.code : FrameKind → BitVec 5
  | .sync => 0x01 | .segment => 0x02 | .write => 0x04 | .read => 0x05 | .send => 0x06
  | .poll => 0x08 | .join => 0x09 | .ack => 0x11 | .data => 0x12 | .nothing => 0x13
  | .message => 0x14 | .ident => 0x15 | .errorReport => 0x1E

/-- The thirteen kinds in the order of R5. -/
def FrameKind.all : List FrameKind :=
  [.sync, .segment, .write, .read, .send, .poll, .join, .ack, .data, .nothing, .message, .ident, .errorReport]

/-- The kind a code names; the other 19 codes are invalid (R5, R181). -/
def FrameKind.ofCode (c : BitVec 5) : Option FrameKind := FrameKind.all.find? fun k => k.code == c

/-- The long kinds (R5). -/
def FrameKind.isLong : FrameKind → Bool
  | .segment | .write | .send | .data | .message | .ident => true
  | .sync | .read | .poll | .join | .ack | .nothing | .errorReport => false

/-- The master kinds that close with TURN (R5). -/
def FrameKind.closesWithTurn : FrameKind → Bool
  | .write | .read | .poll | .join => true
  | .sync | .segment | .send | .ack | .data | .nothing | .message | .ident | .errorReport => false

/-- A frame whose kind code is invalid is treated as short (R5). -/
def Header.isLong (h : Header) : Bool := (FrameKind.ofCode h.kind).any FrameKind.isLong

/-! ### The header code word -/

/-- The code positions of the 26 content bits, content bit 0 first (R8, R181). -/
def contentPositions : List Nat :=
  [3, 5, 6, 7, 9, 10, 11, 12, 13, 14, 15, 17, 18, 19, 20, 21, 22, 23, 24, 25, 26, 27, 28, 29, 30, 31]

/-- The 26 content bits: kind 0 to 4, seq 5, turn 6, mark 7, station 8 to 11, channel 12 and 13, length 14 to 25 (R181). -/
def Header.content (h : Header) : BitVec 26 :=
  h.length ++ h.channel ++ h.station ++ BitVec.ofBool h.mark ++ BitVec.ofBool h.turn ++ BitVec.ofBool h.seq ++ h.kind

/-- The header whose content bits are these (R181). -/
def Header.ofContent (c : BitVec 26) : Header :=
  { kind := c.extractLsb' 0 5, seq := c.getLsbD 5, turn := c.getLsbD 6, mark := c.getLsbD 7,
    station := c.extractLsb' 8 4, channel := c.extractLsb' 12 2, length := c.extractLsb' 14 12 }

/-- The exclusive-or of the bits of `w` at the positions given. -/
def xorAt (w : BitVec 32) (positions : List Nat) : Bool :=
  positions.foldl (fun a p => a ^^ w.getLsbD p) false

/-- The positions 1 to 31 whose index has bit k set, 2^k included (R8, R9). -/
def coveredBy (k : Nat) : List Nat := (List.range 32).filter fun p => p.testBit k

/-- The word with bit `p` set when `b` (a position of the code word). -/
def placeBit (w : BitVec 32) (p : Nat) (b : Bool) : BitVec 32 :=
  if b then w ||| BitVec.twoPow 32 p else w

/-- The content bits placed at their positions, every check bit 0 (R8). -/
def placeContent (c : BitVec 26) : BitVec 32 :=
  contentPositions.zipIdx.foldl (fun w pi => placeBit w pi.1 (c.getLsbD pi.2)) 0

/-- Check bits 0 to 4 at positions 1, 2, 4, 8 and 16: each the exclusive-or of every other position whose
index has that bit set (R8). In `w` the check positions are still 0. -/
def placeChecks (w : BitVec 32) : BitVec 32 :=
  placeBit (placeBit (placeBit (placeBit (placeBit w 1 (xorAt w (coveredBy 0))) 2 (xorAt w (coveredBy 1)))
    4 (xorAt w (coveredBy 2))) 8 (xorAt w (coveredBy 3))) 16 (xorAt w (coveredBy 4))

/-- Check bit 5, the overall parity of positions 1 to 31, at position 0 (R8, R181). -/
def placeParity (w : BitVec 32) : BitVec 32 := placeBit w 0 (xorAt w (List.range' 1 31))

/-- The code word of a header (R8, R181). -/
def Header.codeWord (h : Header) : BitVec 32 := placeParity (placeChecks (placeContent h.content))

/-- The content bits of a code word (R181). -/
def contentOf (w : BitVec 32) : BitVec 26 :=
  contentPositions.zipIdx.foldl (fun c pi => if w.getLsbD pi.1 then c ||| BitVec.twoPow 26 pi.2 else c) 0

/-- The syndrome of a received code word (R9). -/
def syndrome (w : BitVec 32) : Nat :=
  bitWeight (xorAt w (coveredBy 0)) 0 + bitWeight (xorAt w (coveredBy 1)) 1 + bitWeight (xorAt w (coveredBy 2)) 2
    + bitWeight (xorAt w (coveredBy 3)) 3 + bitWeight (xorAt w (coveredBy 4)) 4

/-- The overall parity of a received code word is good: the exclusive-or of all 32 bits is 0 (R9). -/
def parityGood (w : BitVec 32) : Bool := !xorAt w (List.range 32)

/-- The class of a received header, and its content as handed on (R9). A zero syndrome with bad parity
names position 0, check bit 5 (R181). -/
def classifyHeader (w : BitVec 32) : HeaderClass × Header :=
  if parityGood w then
    if syndrome w = 0 then (.clean, Header.ofContent (contentOf w))
    else (.uncorrectable, Header.ofContent (contentOf w))
  else (.corrected, Header.ofContent (contentOf (w ^^^ BitVec.twoPow 32 (syndrome w))))

/-- The four header bytes: byte b holds positions 8·b to 8·b + 7 (R181). -/
def headerBytes (w : BitVec 32) : Bytes :=
  [w.extractLsb' 0 8, w.extractLsb' 8 8, w.extractLsb' 16 8, w.extractLsb' 24 8]

/-- The code word of the first four stored bytes; a missing header byte is taken as zero (R11, R181). -/
def codeWordOf (b : Bytes) : BitVec 32 :=
  (b.getD 3 0) ++ (b.getD 2 0) ++ (b.getD 1 0) ++ (b.getD 0 0)

/-! ### Master frames -/

/-- The data bytes of a master frame: header, and for a long kind the payload and its CRC, low-order byte first
(R3, R7, R10). -/
def SendFrame.dataBytes (f : SendFrame) : Bytes :=
  headerBytes f.header.codeWord
    ++ (if f.kind.isLong then f.payload ++ le2 (crc16 f.payload).toNat else [])

/-- The byte times of a master frame on the line, from START to its closing symbol (R1, R2, R3). -/
def SendFrame.byteTimes (f : SendFrame) : List ByteTime :=
  startPattern :: (f.dataBytes.map dataByteTime
    ++ [if f.kind.closesWithTurn then turnPattern else endPattern])

/-! ### Station frames -/

/-- What ended a frame, or that the byte times given do not end it (R11). -/
inductive FrameEnd where
  | ended
  | turn
  | start
  | brokenOff
  | unfinished
deriving DecidableEq, Repr

/-- The data bytes of a frame in order, up to the first byte time that is no data byte, and what that one is (R11). -/
def collectBytes : List ByteTime → Bytes × FrameEnd
  | [] => ([], .unfinished)
  | t :: ts =>
    match decodeByteTime t with
    | .data b => let (bs, e) := collectBytes ts; (b :: bs, e)
    | .ended => ([], .ended)
    | .turn => ([], .turn)
    | .start => ([], .start)
    | .idle => ([], .brokenOff)
    | .invalid => ([], .brokenOff)

/-- The number of data bytes the Line Interface stores of one frame (R11). -/
def storedLimit : Nat := 262

/-- The CRC result (R10): the kind is that of the header as handed on. -/
def crcResult (crcCheck : Bool) (h : Header) (stored : Bytes) : CrcResult :=
  if h.isLong = false ∨ stored.length < 7 then .absent
  else if crcCheck = false then .unchecked
  else if le2 (crc16 ((stored.drop 4).take (stored.length - 6))).toNat = stored.drop (stored.length - 2) then .agrees
  else .mismatch

/-- The payload of a decoded frame (R11). -/
def framePayload (h : Header) (stored : Bytes) : Bytes :=
  if h.isLong = true ∧ 7 ≤ stored.length then (stored.drop 4).take (stored.length - 6) else []

/-- The closing recorded (R11): a frame that ends before its fourth data byte is BROKEN whatever ended it. -/
def closingOf (count : Nat) (e : FrameEnd) : Closing :=
  if count < 4 then .broken
  else match e with
    | .ended => .ended
    | .turn => .turn
    | .start => .broken
    | .brokenOff => .broken
    | .unfinished => .broken

/-- The decoded frame of these data bytes (R9, R10, R11). -/
def decodeStationFrame (crcCheck : Bool) (bytes : Bytes) (e : FrameEnd) : DecodedFrame :=
  let stored := bytes.take storedLimit
  let (cls, h) := classifyHeader (codeWordOf stored)
  { headerClass := if bytes.length < 4 then .uncorrectable else cls
    header := if bytes.length < 4 then Header.ofContent (contentOf (codeWordOf stored)) else h
    byteCount := min bytes.length 4095
    overrun := storedLimit < bytes.length
    payload := framePayload h stored
    crc := crcResult crcCheck h stored
    closing := closingOf bytes.length e }

end Sys2Proof.Machine
end

