-- ==== Sys2Proof/Machine/Operands.lean ====
section
/-! DEFINITION. The operands of the requests: the codes of the names (R176, R178, R179, R180), the request bodies with
their BAD_LENGTH and BAD_VALUE checks (R177, R178), and the configuration layouts shared by requests and replies. -/

namespace Sys2Proof.Machine

/-! ### Codes -/

/-- The status code (R176). -/
def Status.code : Status → Nat
  | .ok => 0 | .unknownRequest => 1 | .badLength => 2 | .badValue => 3 | .wrongState => 4 | .queueFull => 5
  | .duplicateId => 6 | .stationUnavailable => 7 | .badChannel => 8 | .neverFits => 9 | .notFound => 10
  | .lengthMismatch => 11 | .tableFull => 12 | .tableOverrun => 13 | .reportUnread => 14

/-- The outcome code (R176). -/
def TxnOutcome.code : TxnOutcome → Nat
  | .done => 0 | .doneNoted => 1 | .sent => 2 | .refused => 3 | .noResponse => 4 | .replyCorrupt => 5
  | .replyCrc => 6 | .replyTruncated => 7 | .replyStale => 8 | .contention => 9 | .cancelled => 10
  | .expired => 11 | .stationLost => 12 | .stationDisabled => 13 | .stopped => 14 | .lineFault => 15
  | .unplaceable => 16

/-- The transaction kind code (R176). -/
def TxnKind.code : TxnKind → Nat
  | .write => 1 | .read => 2 | .send => 3 | .poll => 4 | .probe => 5

/-- The engine state code (R176). -/
def EngineState.code : EngineState → Nat
  | .stopped => 0 | .settling => 1 | .running => 2 | .stopping => 3 | .halted => 4

/-- The station state code (R176). -/
def StationState.code : StationState → Nat
  | .disabled => 0 | .offline => 1 | .online => 2 | .suspect => 3 | .resync => 4

/-- The line state code (R180). -/
def LineState.code : LineState → Nat
  | .off => 0 | .quiet => 1 | .sending => 2 | .offered => 3 | .listening => 4 | .reclaim => 5

/-- The address of a target, 15 for broadcast (R49). -/
def Target.code : Target → Nat
  | .station s => s.val
  | .broadcast => 15

/-- The FRAME_ERROR detail value (R179). -/
def FrameError.code : FrameError → Nat
  | .check => 1 | .cut => 2 | .timeout => 3 | .oversize => 4 | .backlog => 5

/-- The 26 requests (R176). -/
inductive Request where
  | identify
  | resetDevice
  | configureLine
  | readLine
  | configureRound
  | readRound
  | defineSegment
  | deleteSegment
  | updateSegment
  | readSegment
  | start
  | stop
  | configureStation
  | enableStation
  | disableStation
  | readStation
  | submit
  | cancel
  | readQueue
  | configureInbound
  | takeMessages
  | fetchReports
  | ackReports
  | readEvents
  | ackEvent
  | maskEvents
deriving DecidableEq, Repr

/-- The request kind byte (R176). -/
def Request.code : Request → Byte
  | .identify => 0x01 | .resetDevice => 0x02 | .configureLine => 0x10 | .readLine => 0x11
  | .configureRound => 0x14 | .readRound => 0x15 | .defineSegment => 0x20 | .deleteSegment => 0x21
  | .updateSegment => 0x22 | .readSegment => 0x23 | .start => 0x28 | .stop => 0x29
  | .configureStation => 0x30 | .enableStation => 0x31 | .disableStation => 0x32 | .readStation => 0x33
  | .submit => 0x40 | .cancel => 0x41 | .readQueue => 0x42 | .configureInbound => 0x50
  | .takeMessages => 0x51 | .fetchReports => 0x60 | .ackReports => 0x61 | .readEvents => 0x68
  | .ackEvent => 0x69 | .maskEvents => 0x6A

/-- The requests in the order of their kind values. -/
def Request.all : List Request :=
  [.identify, .resetDevice, .configureLine, .readLine, .configureRound, .readRound, .defineSegment,
   .deleteSegment, .updateSegment, .readSegment, .start, .stop, .configureStation, .enableStation,
   .disableStation, .readStation, .submit, .cancel, .readQueue, .configureInbound, .takeMessages,
   .fetchReports, .ackReports, .readEvents, .ackEvent, .maskEvents]

/-- The request a kind byte names, if it names one (R162, R176). -/
def Request.ofCode (k : Byte) : Option Request := Request.all.find? fun q => q.code == k

/-! ### Field values -/

/-- A number below `k`, or none. -/
def fin? (k n : Nat) : Option (Fin k) := if h : n < k then some ⟨n, h⟩ else none

/-- A destination: 0 to 7 or 15; 8 to 14 and above 15 are out of range (R40, R41, R53, R177). -/
def target? (n : Nat) : Option Target :=
  match fin? 8 n with
  | some s => some (.station s)
  | none => if n = 15 then some .broadcast else none

/-- A host transaction kind (R53). -/
def hostKind? (n : Nat) : Option TxnKind :=
  if n = 1 then some .write else if n = 2 then some .read else if n = 3 then some .send else none

/-- A placement; the segment byte is judged only with AFTER_SEGMENT (R177). -/
def placement? (code seg : Nat) : Option Placement :=
  if code = 0 then some .closing
  else if code = 1 then (fin? 32 seg).map .afterSegment
  else if code = 2 then some .any
  else none

/-! ### Configurations -/

/-- The ranges of R22. -/
def LineConfig.inRange (c : LineConfig) : Bool :=
  (c.rate == 1 || c.rate == 2 || c.rate == 4 || c.rate == 8 || c.rate == 16)
  && decide (8 ≤ c.turnGuard ∧ c.turnGuard ≤ 255)
  && decide (1 ≤ c.writeTimeout ∧ c.writeTimeout ≤ 4095) && decide (1 ≤ c.readTimeout ∧ c.readTimeout ≤ 4095)
  && decide (1 ≤ c.pollTimeout ∧ c.pollTimeout ≤ 4095) && decide (1 ≤ c.probeTimeout ∧ c.probeTimeout ≤ 4095)
  && decide (16 ≤ c.stuckTime ∧ c.stuckTime ≤ 4095)

/-- The ten values of a CONFIGURE LINE body as laid out by R178. -/
def lineConfigOf (b : Bytes) : LineConfig :=
  { rate := u8 b 0
    turnGuard := u8 b 1
    contentionPolicy := if u8 b 2 = 0 then .yield else .persist
    headerPolicy := if u8 b 3 = 0 then .strict else .lenient
    crcCheck := u8 b 4 != 0
    writeTimeout := u16 b 5
    readTimeout := u16 b 7
    pollTimeout := u16 b 9
    probeTimeout := u16 b 11
    stuckTime := u16 b 13 }

/-- The ten line parameters in the layout of R178. -/
def LineConfig.bytes (c : LineConfig) : Bytes :=
  le1 c.rate ++ le1 c.turnGuard ++ le1 (if c.contentionPolicy = .yield then 0 else 1)
  ++ le1 (if c.headerPolicy = .strict then 0 else 1) ++ leBool c.crcCheck
  ++ le2 c.writeTimeout ++ le2 c.readTimeout ++ le2 c.pollTimeout ++ le2 c.probeTimeout ++ le2 c.stuckTime

/-- CONFIGURE LINE's body: checks 1 and 2 of R22; an enumerated field carries one of its codes (R178). -/
def decodeConfigureLine (b : Bytes) : Except Status LineConfig :=
  if b.length ≠ 15 then .error .badLength
  else if u8 b 2 ≤ 1 ∧ u8 b 3 ≤ 1 ∧ u8 b 4 ≤ 1 ∧ (lineConfigOf b).inRange = true then .ok (lineConfigOf b)
  else .error .badValue

/-- The ranges of R47; the 2-byte fields are at most 65535 by their width. -/
def RoundConfig.inRange (c : RoundConfig) : Bool :=
  decide (100 ≤ c.period ∧ c.period ≤ 65535) && decide (c.triggerDelay ≤ 4095)
  && decide (100 ≤ c.minPeriod ∧ c.minPeriod ≤ 65535)
  && decide (c.minPeriod ≤ c.maxPeriod ∧ c.maxPeriod ≤ 65535)
  && decide (20 ≤ c.settleTime ∧ c.settleTime ≤ 65535)
  && decide (c.segmentGap = 0 ∨ (20 ≤ c.segmentGap ∧ c.segmentGap ≤ 4095))
  && decide (10 ≤ c.minClosing ∧ c.minClosing ≤ 65535)

/-- The eight values of a CONFIGURE ROUND body as laid out by R178. -/
def roundConfigOf (b : Bytes) : RoundConfig :=
  { mode := if u8 b 0 = 0 then .timed else .triggered
    period := u16 b 1
    triggerDelay := u16 b 3
    minPeriod := u16 b 5
    maxPeriod := u16 b 7
    settleTime := u16 b 9
    segmentGap := u16 b 11
    minClosing := u16 b 13 }

/-- The eight round parameters in the layout of R178. -/
def RoundConfig.bytes (c : RoundConfig) : Bytes :=
  le1 (if c.mode = .timed then 0 else 1) ++ le2 c.period ++ le2 c.triggerDelay ++ le2 c.minPeriod
  ++ le2 c.maxPeriod ++ le2 c.settleTime ++ le2 c.segmentGap ++ le2 c.minClosing

/-- CONFIGURE ROUND's body: checks 1 and 2 of R47. -/
def decodeConfigureRound (b : Bytes) : Except Status RoundConfig :=
  if b.length ≠ 15 then .error .badLength
  else if u8 b 0 ≤ 1 ∧ (roundConfigOf b).inRange = true then .ok (roundConfigOf b)
  else .error .badValue

/-! ### Bodies -/

/-- An empty body (R178). -/
def decodeEmpty (b : Bytes) : Except Status Unit :=
  if b.length ≠ 0 then .error .badLength else .ok ()

/-- A body of one byte below `k`: an index, a station, a source (R178). -/
def decodeIndex (k : Nat) (b : Bytes) : Except Status (Fin k) :=
  if b.length ≠ 1 then .error .badLength
  else match fin? k (u8 b 0) with
    | some i => .ok i
    | none => .error .badValue

/-- A body of one byte from 1 to `top`: a count, a maximum, a threshold (R178). -/
def decodeCount (top : Nat) (b : Bytes) : Except Status Nat :=
  if b.length ≠ 1 then .error .badLength
  else if 1 ≤ u8 b 0 ∧ u8 b 0 ≤ top then .ok (u8 b 0)
  else .error .badValue

/-- DEFINE SEGMENT's body, as a record with age 0 and no staged payload: checks 1 and 2 of R41. -/
def decodeDefineSegment (b : Bytes) : Except Status Segment :=
  if b.length < 5 ∨ 260 < b.length then .error .badLength
  else match fin? 32 (u8 b 0), target? (u8 b 1), fin? 4 (u8 b 2) with
    | some i, some t, some c =>
      .ok { index := i, destination := t, channel := c, active := b.drop 4, staged := none,
            freshness := u8 b 3, age := 0 }
    | _, _, _ => .error .badValue

/-- UPDATE SEGMENT's body: checks 1 and 2 of R43. -/
def decodeUpdateSegment (b : Bytes) : Except Status (SegmentIndex × Bytes) :=
  if b.length < 2 ∨ 257 < b.length then .error .badLength
  else match fin? 32 (u8 b 0) with
    | some i => .ok (i, b.drop 1)
    | none => .error .badValue

/-- The values of a CONFIGURE STATION request (R127); a threshold of 0 keeps the current one. -/
structure StationSettings where
  station : StationId
  rxMask : BitVec 4
  msgLimit : Nat
  probeInterval : Nat
  pollInterval : Nat
  suspectAfter : Nat
  lostAfter : Nat
deriving DecidableEq, Repr

/-- CONFIGURE STATION's body: check 1 of R127 and the part of check 2 that the body alone decides. -/
def decodeConfigureStation (b : Bytes) : Except Status StationSettings :=
  if b.length ≠ 8 then .error .badLength
  else match fin? 8 (u8 b 0) with
    | some st =>
      if u8 b 1 ≤ 15 ∧ 1 ≤ u16 b 2 ∧ u16 b 2 ≤ 256 ∧ 1 ≤ u8 b 4 ∧ u8 b 6 ≤ 15 ∧ u8 b 7 ≤ 31 then
        .ok { station := st, rxMask := BitVec.ofNat 4 (u8 b 1), msgLimit := u16 b 2, probeInterval := u8 b 4,
              pollInterval := u8 b 5, suspectAfter := u8 b 6, lostAfter := u8 b 7 }
      else .error .badValue
    | none => .error .badValue

/-- A host transaction as SUBMIT carries it (R53, R177). -/
structure Submission where
  id : Nat
  kind : TxnKind
  target : Target
  channel : Channel
  length : Nat
  placement : Placement
  delay : Nat
  lifetime : Option Nat
  retryBudget : Nat
  payload : Bytes
deriving DecidableEq, Repr

/-- The size a SUBMIT body should have (R177). -/
def submitSize (b : Bytes) : Nat := if u8 b 2 = 2 then 14 else 14 + u16 b 5

/-- An id the host may use (R50). -/
def hostId (n : Nat) : Bool := decide (1 ≤ n ∧ n ≤ 0xEFFF)

/-- SUBMIT's body: checks 1 and 2 of R53 with the additions of R177. -/
def decodeSubmit (b : Bytes) : Except Status Submission :=
  if b.length < 14 ∨ b.length ≠ submitSize b then .error .badLength
  else match hostKind? (u8 b 2), target? (u8 b 3), fin? 4 (u8 b 4), placement? (u8 b 7) (u8 b 8) with
    | some k, some t, some c, some p =>
      if hostId (u16 b 0) = true ∧ (t = .broadcast → k = .send) ∧ 1 ≤ u16 b 5 ∧ u16 b 5 ≤ 256 ∧ u8 b 13 ≤ 7 then
        .ok { id := u16 b 0, kind := k, target := t, channel := c, length := u16 b 5, placement := p,
              delay := u16 b 9, lifetime := if u16 b 11 = 0 then none else some (u16 b 11),
              retryBudget := u8 b 13, payload := b.drop 14 }
      else .error .badValue
    | _, _, _, _ => .error .badValue

/-- CANCEL's body: checks 1 and 2 of R61. -/
def decodeCancel (b : Bytes) : Except Status Nat :=
  if b.length ≠ 2 then .error .badLength
  else if hostId (u16 b 0) = true then .ok (u16 b 0)
  else .error .badValue

/-- ACK REPORTS' body: any 16-bit number is in range (R147). -/
def decodeAckReports (b : Bytes) : Except Status (BitVec 16) :=
  if b.length ≠ 2 then .error .badLength else .ok (BitVec.ofNat 16 (u16 b 0))

/-- The pairs of a MASK EVENTS body: a source and whether it is to be masked (R153, R178). -/
def maskPairs : Bytes → Option (List (SourceId × Bool))
  | [] => some []
  | [_] => none
  | a :: m :: rest =>
    match fin? 48 a.toNat, maskPairs rest with
    | some src, some ps => if m.toNat ≤ 1 then some ((src, m.toNat == 1) :: ps) else none
    | _, _ => none

/-- MASK EVENTS' body: checks 1 and 2 of R153. -/
def decodeMaskEvents (b : Bytes) : Except Status (List (SourceId × Bool)) :=
  if b.length % 2 ≠ 0 ∨ b.length < 2 ∨ 96 < b.length then .error .badLength
  else match maskPairs b with
    | some ps => if (ps.map Prod.fst).Nodup then .ok ps else .error .badValue
    | none => .error .badValue

end Sys2Proof.Machine
end

