-- ==== Sys2Proof/Machine/Flags.lean ====
section
/-! DEFINITION. The flags the part raises: the Event Table's latches, the reports they queue, ATTN (chapter 8), the
flag bytes of reports (R179, R180), and the pins that follow from the state. -/

namespace Sys2Proof.Machine

/-! ### Reports -/

/-- A report joins the tail with the next sequence number (R142, R143). -/
def State.queueReport (s : State) (b : ReportBody) : State :=
  s.setReports { queue := s.reports.queue ++ [{ seq := s.reports.nextSeq, body := b }],
                 nextSeq := s.reports.nextSeq + 1 }

/-- The report is a COMPLETION. -/
def Report.isCompletion (r : Report) : Bool :=
  match r.body with
  | .completion _ => true
  | .event _ => false

/-- The report is the EVENT report of this source. -/
def Report.isEventOf (r : Report) (src : SourceId) : Bool :=
  match r.body with
  | .completion _ => false
  | .event e => e.source == src

/-- report_queued, read from the queue (R149). -/
def State.reportQueued (s : State) (src : SourceId) : Bool := s.reports.queue.any fun r => r.isEventOf src

/-- ATTN is low, asserted, while the queue holds a report (R144). -/
def State.attnLow (s : State) : Bool := !s.reports.queue.isEmpty

/-! ### Event sources -/

/-- The source's record. -/
def State.source (s : State) (src : SourceId) : Source := s.events[src]

/-- Replace the source's record. -/
def State.setSource (s : State) (src : SourceId) (v : Source) : State := s.setEvents (s.events.set src v)

/-- The EVENT report of a source as it stands (R141, R151, R153). -/
def State.eventReport (s : State) (src : SourceId) : ReportBody :=
  .event { source := src, count := (s.source src).count, detail := (s.source src).detail,
           round := (s.source src).lastRound }

/-- The source after an occurrence (R151 steps 1 to 3, its fields). -/
def Source.occurred (e : Source) (d : Detail) (round : Round) : Source :=
  { e with latched := true, count := min 255 (e.count + 1), detail := some d, lastRound := round }

/-- An occurrence at a source (R150, R151). -/
def State.occur (s : State) (src : SourceId) (d : Detail) : State :=
  let s' := s.setSource src ((s.source src).occurred d s.engine.counter)
  if (s.source src).latched = true ∨ (s.source src).masked = true then s'
  else s'.queueReport (s'.eventReport src)

/-- Station s has the sources 5·s + k: k is 0 ONLINE, 1 SUSPECT, 2 LOST, 3 RESYNC, 4 ERROR_REPORT (R129). -/
def stationSource (s : StationId) (k : Fin 5) : SourceId := ⟨5 * s.val + k.val, by omega⟩

/-- SEGMENT_STALE (R148). -/
def srcSegmentStale : SourceId := 40
/-- ENGINE_STATE (R148). -/
def srcEngineState : SourceId := 41
/-- CONTENTION (R148). -/
def srcContention : SourceId := 42
/-- LINE_FAULT (R148). -/
def srcLineFault : SourceId := 43
/-- TRIGGER (R148). -/
def srcTrigger : SourceId := 44
/-- INBOUND_THRESHOLD (R148). -/
def srcInboundThreshold : SourceId := 45
/-- POLLS_HELD (R148). -/
def srcPollsHeld : SourceId := 46
/-- FRAME_ERROR (R148). -/
def srcFrameError : SourceId := 47

/-! ### Details and flag bytes -/

/-- The detail value (R179). -/
def Detail.value : Detail → Nat
  | .joined => 1
  | .recovered => 2
  | .outcome o => o.code
  | .kind k => k.code
  | .word w => w.toNat
  | .segment k => k.val
  | .engine e => e.code
  | .frame k => k.code.toNat
  | .early => 1
  | .missing => 2
  | .count n => n
  | .station s => s.val
  | .frameError e => e.code

/-- The detail form that the source fixes (R179). -/
def detailForm (src : SourceId) : Nat :=
  if src.val < 40 then
    match src.val % 5 with
    | 0 => 1
    | 1 => 2
    | 2 => 2
    | 3 => 3
    | _ => 4
  else
    match src.val with
    | 40 => 5
    | 41 => 6
    | 42 => 7
    | 43 => 6
    | 44 => 8
    | 45 => 9
    | 46 => 10
    | _ => 11

/-- The value of an optional detail, 0 when none is present (R180). -/
def detailValue (d : Option Detail) : Nat :=
  match d with
  | some d => d.value
  | none => 0

/-- The flags byte of a COMPLETION (R179). -/
def TxnFlags.byte (f : TxnFlags) : Nat :=
  bitWeight f.headerCorrected 0 + bitWeight f.headerSuspect 1 + bitWeight f.crcUnchecked 2
  + bitWeight f.noReturn 3 + bitWeight f.trailerBad 4

/-! ### Pins -/

/-- The line state, as READ LINE returns it (R172). -/
def LineActivity.state : LineActivity → LineState
  | .off => .off
  | .quiet _ => .quiet
  | .sending _ => .sending
  | .offered _ => .offered
  | .listening _ => .listening
  | .reclaim _ => .reclaim

/-- LINE_DE is asserted in QUIET and SENDING (section 1.6). -/
def State.lineDriverOn (s : State) : Bool :=
  s.line.activity.state == .quiet || s.line.activity.state == .sending

end Sys2Proof.Machine
end

