-- ==== Sys2Proof/Machine/Layout.lean ====
section
/-! DEFINITION. Times and lengths: bit times and microseconds (R1, R23), frame durations (R3), the round layout and
its gaps (R35, R37, R38), the reservation and the reply allowance (R74, R96), round numbers (R52, R89). -/

namespace Sys2Proof.Machine

/-! ### Durations -/

/-- Units of the model's time in one bit time at this rate: 1/rate microseconds (R1, log 2). -/
def LineConfig.unitsPerBit (c : LineConfig) : Time := 32 / c.rate

/-- Half a bit time, from its beginning to its middle, where the line is sampled (R1, R18, log 2). -/
def LineConfig.halfBit (c : LineConfig) : Time := 16 / c.rate

/-- `n` bit times as a duration (R1). -/
def LineConfig.bits (c : LineConfig) (n : Nat) : Time := n * c.unitsPerBit

/-- `n` microseconds as a duration. -/
def micros (n : Nat) : Time := 32 * n

/-- The tick of the time base in which the part sees what happens at this moment: the first at or after it
(R33; DEDUCED, log 16). -/
def tickOf (t : Time) : Time := micros ((t + 31) / 32)

/-- A line duration in microseconds: divided by the rate and rounded up (R23). -/
def LineConfig.bitsToMicros (c : LineConfig) (n : Nat) : Nat := (n + c.rate - 1) / c.rate

/-- The duration of a short frame in bit times (R3). -/
def shortFrame : Nat := 60

/-- The duration of a long frame with payload length L, in bit times (R3). -/
def longFrame (l : Nat) : Nat := 80 + 10 * l

/-- The inter-frame idle, and the leading idle of a transaction frame, in bit times (R4). -/
def interFrameIdle : Nat := 20

/-! ### Round numbers -/

/-- Round `a` is before round `b` (R52). -/
def roundBefore (a b : Round) : Bool := decide (1 ≤ (b - a).toNat ∧ (b - a).toNat ≤ 2 ^ 31 - 1)

/-- Round `a` is at or before round `b` (R52). -/
def roundAtOrBefore (a b : Round) : Bool := decide ((b - a).toNat ≤ 2 ^ 31 - 1)

/-- Rounds since a recorded round, as a number from 0 to 2^32 - 1 (R89). -/
def roundsSince (counter recorded : Round) : Nat := (counter - recorded).toNat

/-! ### The round layout, in bit times from the SYNC's START -/

/-- The lead-in of a segment (R35). -/
def leadIn (ln : LineConfig) (rc : RoundConfig) (first : Bool) : Nat :=
  if first = true ∨ rc.segmentGap = 0 then interFrameIdle else rc.segmentGap * ln.rate

/-- The length L of a segment (R40). -/
def Segment.len (g : Segment) : Nat := g.active.length

/-- The sum of lead-ins and frames of these records, the first of them the first of the table or not (R35). -/
def segmentsBits (ln : LineConfig) (rc : RoundConfig) : Bool → List Segment → Nat
  | _, [] => 0
  | first, g :: rest => leadIn ln rc first + longFrame g.len + segmentsBits ln rc false rest

/-- D, the fixed part of the round (R35). -/
def fixedPart (ln : LineConfig) (rc : RoundConfig) (table : List Segment) : Nat :=
  shortFrame + segmentsBits ln rc true table

/-- A segment's place in the layout: the START of its frame and the end of it (R35). -/
structure Slot where
  index : SegmentIndex
  start : Nat
  stop : Nat
deriving DecidableEq, Repr

/-- The places of these records, the line being free from `at_` on (R35). -/
def slotsFrom (ln : LineConfig) (rc : RoundConfig) : Bool → Nat → List Segment → List Slot
  | _, _, [] => []
  | first, free, g :: rest =>
    let start := free + leadIn ln rc first
    let stop := start + longFrame g.len
    { index := g.index, start := start, stop := stop } :: slotsFrom ln rc false stop rest

/-- The places of all segments of the round (R35). -/
def slots (ln : LineConfig) (rc : RoundConfig) (table : List Segment) : List Slot :=
  slotsFrom ln rc true shortFrame table

/-- The microseconds of a round in which gaps lie: period, or min_period in TRIGGERED mode (R25, R37, R38). -/
def RoundConfig.length (rc : RoundConfig) : Nat :=
  match rc.mode with
  | .timed => rc.period
  | .triggered => rc.minPeriod

/-- The round length in bit times (R25, R38). -/
def roundLength (ln : LineConfig) (rc : RoundConfig) : Nat := rc.length * ln.rate

/-- The closing gap's full length in bit times; 0 when D exceeds the round length (R38, R48). -/
def closingLength (ln : LineConfig) (rc : RoundConfig) (table : List Segment) : Nat :=
  roundLength ln rc - fixedPart ln rc table

/-- The budget check of START (R25 check 3). -/
def budgetHolds (ln : LineConfig) (rc : RoundConfig) (table : List Segment) : Bool :=
  decide (fixedPart ln rc table + max (rc.minClosing * ln.rate) interFrameIdle ≤ roundLength ln rc)

/-- The index of the last record of the table, if there is a record. -/
def lastIndex (table : List Segment) : Option SegmentIndex := table.getLast?.map Segment.index

/-- The full lengths of the gaps a placement names in this layout (R38). -/
def gapLengths (ln : LineConfig) (rc : RoundConfig) (table : List Segment) : Placement → List Nat
  | .closing => [closingLength ln rc table]
  | .afterSegment k =>
    if lastIndex table = some k then [closingLength ln rc table]
    else if (table.any fun g => g.index == k) = true ∧ 0 < rc.segmentGap then [rc.segmentGap * ln.rate]
    else []
  | .any =>
    closingLength ln rc table ::
      (if 0 < rc.segmentGap ∧ 2 ≤ table.length then [rc.segmentGap * ln.rate] else [])

/-- The placement matches the gap (R78). -/
def placementMatches (table : List Segment) (p : Placement) (g : GapKind) : Bool :=
  match p with
  | .closing => g == .closing
  | .afterSegment k => if lastIndex table = some k then g == .closing else g == .afterSegment k
  | .any => true

/-- The rest of a round that started at `t0`: segment frames and gap openings in order, the closing gap ending at
`ends` (R35, R36, R37). -/
def agendaFrom (ln : LineConfig) (rc : RoundConfig) (t0 ends : Time) : List Slot → List RoundItem
  | [] => []
  | [x] =>
    [.segment (t0 + ln.bits x.start) x.index, .gap (t0 + ln.bits x.stop) .closing ends]
  | x :: y :: rest =>
    .segment (t0 + ln.bits x.start) x.index ::
      ((if 0 < rc.segmentGap then
          [.gap (t0 + ln.bits x.stop) (.afterSegment x.index) (t0 + ln.bits y.start)] else [])
        ++ agendaFrom ln rc t0 ends (y :: rest))

/-- The whole round after its SYNC: with an empty table, the closing gap alone (R37). -/
def agenda (ln : LineConfig) (rc : RoundConfig) (table : List Segment) (t0 : Time) : List RoundItem :=
  match slots ln rc table with
  | [] => [.gap (t0 + ln.bits shortFrame) .closing (t0 + micros rc.length)]
  | x :: rest => agendaFrom ln rc t0 (t0 + micros rc.length) (x :: rest)

/-- The record is stale (R40). -/
def Segment.stale (g : Segment) : Bool := decide (g.freshness ≠ 0 ∧ g.freshness ≤ g.age)

/-! ### Reservation and fit -/

/-- The master frame of a transaction without its leading idle, in bit times (R3, R13). -/
def TxnKind.frameBits (k : TxnKind) (l : Nat) : Nat :=
  match k with
  | .write | .send => longFrame l
  | .read | .poll | .probe => shortFrame

/-- The timeout T of the kind, in bit times; SEND has none (R23, R74, R94). -/
def timeoutBits (ln : LineConfig) : TxnKind → Nat
  | .write => ln.writeTimeout * ln.rate
  | .read => ln.readTimeout * ln.rate
  | .poll => ln.pollTimeout * ln.rate
  | .probe => ln.probeTimeout * ln.rate
  | .send => 0

/-- The reply allowance A, the talk limit, in bit times; SEND has none (R74, R96). -/
def allowanceBits (k : TxnKind) (l m : Nat) : Nat :=
  match k with
  | .write => 140
  | .read => 80 + 10 * l + 80
  | .poll => 80 + 10 * m + 80
  | .probe => 240
  | .send => 0

/-- The reservation R, in bit times (R74). -/
def reservationBits (ln : LineConfig) (k : TxnKind) (l m : Nat) : Nat :=
  match k with
  | .send => interFrameIdle + longFrame l
  | .write | .read | .poll | .probe =>
    interFrameIdle + k.frameBits l + ln.turnGuard + timeoutBits ln k + allowanceBits k l m + ln.turnGuard

/-- A reservation can fit a gap the placement names (R38). -/
def canFit (ln : LineConfig) (rc : RoundConfig) (table : List Segment) (p : Placement) (r : Nat) : Bool :=
  (gapLengths ln rc table p).any fun g => decide (r + interFrameIdle ≤ g)

/-- The bit times that must remain in the open gap for a start: R + 20, and the abort margin of a SEND (R76). -/
def fitNeeds (ln : LineConfig) (k : TxnKind) (r : Nat) : Nat :=
  match k with
  | .send => r + ln.turnGuard + interFrameIdle
  | .write | .read | .poll | .probe => r + interFrameIdle

/-- The effective message limit M (R113). -/
def Station.limit (st : Station) : Nat :=
  match st.identity with
  | some i => min st.msgLimit i.maxLength
  | none => st.msgLimit

end Sys2Proof.Machine
end

