-- ==== Sys2Proof/Machine/Ops.lean ====
section
/-! DEFINITION. The shared operations of the blocks: the line, the Station Table and the Inbound Queue as accessors,
the Transaction List's completions (chapter 3), attempt starts and the walk (chapter 4), and the device reset (R175). -/

namespace Sys2Proof.Machine

/-! ### The line -/

/-- `n` bit times at the line rate in force (R23). -/
def State.bits (s : State) (n : Nat) : Time := s.line.config.bits n

/-- Half a bit time at the line rate in force. -/
def State.halfBit (s : State) : Time := s.line.config.halfBit

/-- Put the line into a state. -/
def State.setActivity (s : State) (a : LineActivity) : State := s.setLine { s.line with activity := a }

/-- The line enters QUIET: the stuck-line monitor restarts its count at 0 (R12, R14, R17, R21). -/
def State.goQuiet (s : State) : State := s.setActivity (.quiet { countedTo := s.now, lows := 0 })

/-- The line enters RECLAIM for G bit times (R17). -/
def State.goReclaim (s : State) : State :=
  s.setActivity (.reclaim (s.now + s.bits s.line.config.turnGuard))

/-! ### Station Table -/

/-- The record of a station (R112). -/
def State.station (s : State) (i : StationId) : Station := s.stations[i]

/-- Replace the record of a station. -/
def State.setStation (s : State) (i : StationId) (v : Station) : State := s.setStations (s.stations.set i v)

/-- A statistic or count held at 65535 once reached (R20, R130). -/
def heldSucc (n : Nat) : Nat := min 65535 (n + 1)

/-! ### Transaction List -/

/-- Host transactions are WRITE, READ and SEND (spec/00_scope.md, Terms). -/
def TxnKind.isHost : TxnKind → Bool
  | .write | .read | .send => true
  | .poll | .probe => false

/-- A host record. -/
def Record.isHost (r : Record) : Bool := r.kind.isHost

/-- A PENDING host record that matches a cause (R64). -/
def Record.pendingHost (p : Record → Bool) (r : Record) : Bool := r.isHost && !r.onLine && p r

/-- A PENDING internal record that matches a cause (R64). -/
def Record.pendingInternal (p : Record → Bool) (r : Record) : Bool := !r.isHost && !r.onLine && p r

/-- The record names this station. -/
def Record.names (i : StationId) (r : Record) : Bool := r.target == .station i

/-- The record whose attempt is on the line: the in-flight marker (R57, log 18). -/
def State.inFlight (s : State) : Option Record := s.txns.find? fun r => r.onLine

/-- The host admission count (R55). -/
def State.admission (s : State) : Nat :=
  s.txns.countP (fun r => r.isHost) + s.reports.queue.countP (fun r => r.isCompletion)

/-- A completion made without an attempt ending: flags clear, no report word, no data (R68). -/
def Record.plainCompletion (r : Record) (o : TxnOutcome) (round : Round) : Completion :=
  { id := r.id, kind := r.kind, target := r.target, channel := r.channel, outcome := o, attempts := r.attempts,
    round := round, flags := .clear, word := none, data := [] }

/-- These records' completions reach the Report Queue in list order (R69). -/
def State.queueCompletions (s : State) (o : TxnOutcome) : List Record → State
  | [] => s
  | r :: rest => (s.queueReport (.completion (r.plainCompletion o s.engine.counter))).queueCompletions o rest

/-- A bulk completion: every matching PENDING host record leaves the list and completes, in list order (R63, R64, R69). -/
def State.completeAll (s : State) (p : Record → Bool) (o : TxnOutcome) : State :=
  (s.setTxns (s.txns.filter fun r => !r.pendingHost p)).queueCompletions o (s.txns.filter fun r => r.pendingHost p)

/-- The number of records a bulk completion completes. -/
def State.countMatching (s : State) (p : Record → Bool) : Nat := s.txns.countP fun r => r.pendingHost p

/-- Every matching PENDING internal record is removed without a completion (R56, R64). -/
def State.removeInternal (s : State) (p : Record → Bool) : State :=
  s.setTxns (s.txns.filter fun r => !r.pendingInternal p)

/-- Every PENDING host record completes and every PENDING internal record is removed (R30 step 3, R31 step 4). -/
def State.flushAll (s : State) (o : TxnOutcome) : State :=
  (s.completeAll (fun _ => true) o).removeInternal fun _ => true

/-- A POLL or PROBE for the station is in the list (R88, R112). -/
def State.internalOf (s : State) (i : StationId) : Option Record :=
  s.txns.find? fun r => !r.isHost && r.names i

/-- M of a target; a SEND to broadcast has none (R74, R113). -/
def State.limitOf (s : State) : Target → Nat
  | .station i => (s.station i).limit
  | .broadcast => 0

/-- The reservation R of a record under the configuration in force (R74). -/
def State.reservation (s : State) (r : Record) : Nat :=
  reservationBits s.line.config r.kind r.length (s.limitOf r.target)

/-- The record can fit the layout (R38). -/
def State.canFit (s : State) (r : Record) : Bool :=
  Machine.canFit s.line.config s.engine.config s.engine.table r.placement (s.reservation r)

/-- Anchoring with anchor round `a` (R51). -/
def Record.anchored (r : Record) (a : Round) : Record :=
  let earliest := a + BitVec.ofNat 32 r.delay
  { r with
    anchor := some { earliest := earliest,
                     expiry := r.lifetime.map fun l => earliest + BitVec.ofNat 32 l - 1 }
    due := earliest == a }

/-- E of a record, when it has one (R49). -/
def Record.expiryRound (r : Record) : Option Round := r.anchor.bind Anchor.expiry

/-! ### Inbound Queue -/

/-- The bytes held (R131). -/
def Inbound.bytesHeld (q : Inbound) : Nat := (q.messages.map fun m => m.payload.length).sum

/-- There is room for a message of size M (R81, R132). -/
def Inbound.room (q : Inbound) (m : Nat) : Bool :=
  decide (q.messages.length < Config.inboundMessages ∧ m ≤ Config.inboundBytes - q.bytesHeld)

/-! ### Attempt start -/

/-- The frame kind a transaction sends; a PROBE sends JOIN (R5). -/
def TxnKind.frameKind : TxnKind → FrameKind
  | .write => .write
  | .read => .read
  | .send => .send
  | .poll => .poll
  | .probe => .join

/-- seq_next of a target's station record; broadcast has no record. -/
def State.seqNextOf (s : State) : Target → Bool
  | .station i => (s.station i).seqNext
  | .broadcast => false

/-- The sent seq of an attempt: seq_next for WRITE, READ and POLL, absent for SEND and JOIN (R92, R93). -/
def State.sentSeqOf (s : State) (r : Record) : Option Bool :=
  match r.kind with
  | .write | .read | .poll => some (s.seqNextOf r.target)
  | .send | .probe => none

/-- The header of a transaction frame (R7). -/
def Record.header (r : Record) (seq : Option Bool) : Header :=
  { kind := r.kind.frameKind.code, seq := seq.getD false, turn := r.kind.frameKind.closesWithTurn, mark := false,
    station := BitVec.ofNat 4 r.target.code, channel := BitVec.ofNat 2 r.channel.val,
    length := BitVec.ofNat 12 r.length }

/-- The master frame of an attempt, leading idle included (R4, R7, R13). -/
def State.txnFrame (s : State) (r : Record) : SendFrame :=
  { kind := r.kind.frameKind, header := r.header (s.sentSeqOf r), payload := r.payload, startAt := s.now,
    endAt := s.now + s.bits (interFrameIdle + r.kind.frameBits r.length), contended := false }

/-- The attempt as created (R84, R92, R93). -/
def State.newAttempt (s : State) (r : Record) : Attempt :=
  { phase := .sending, kind := r.kind, target := r.target, channel := r.channel, length := r.length,
    payload := r.payload, timeout := timeoutBits s.line.config r.kind,
    allowance := allowanceBits r.kind r.length (s.limitOf r.target), msgLimit := s.limitOf r.target,
    sentSeq := s.sentSeqOf r, first := none, trailer := none, provisional := none, flags := .clear, word := none }

/-- Mark the record of this id ON_LINE (R57). -/
def markOnLine (id : Nat) (txns : List Record) : List Record :=
  txns.map fun x => if x.id = id then { x with onLine := true } else x

/-- The start of a record's attempt (R84). -/
def State.startAttempt (s : State) (r : Record) : State :=
  (((s.setTxns (markOnLine r.id s.txns)).setAttempt (some (s.newAttempt r))).setActivity
    (.sending (s.txnFrame r))).setSched
      { s.sched with pollsHeld := if r.kind = .poll then false else s.sched.pollsHeld }

/-! ### The walk -/

/-- An older host record of the same station and channel holds this host record (R79). -/
def heldByOlder (older : List Record) (r : Record) : Bool :=
  r.isHost && older.any fun x => x.isHost && x.target == r.target && x.channel == r.channel

/-- The station of a host record is ONLINE or SUSPECT; a SEND to broadcast is not held (R80). -/
def State.stationReady (s : State) : Target → Bool
  | .station i => (s.station i).state == .online || (s.station i).state == .suspect
  | .broadcast => true

/-- Conditions 1 to 4 of R77. -/
def State.eligible (s : State) (g : GapKind) (older : List Record) (r : Record) : Bool :=
  !r.onLine && r.anchor.isSome && r.due && placementMatches s.engine.table r.placement g
  && (!r.isHost || s.stationReady r.target) && !heldByOlder older r

/-- The POLL is held for room (R81); no other record is. -/
def State.heldForRoom (s : State) (r : Record) : Bool :=
  r.kind == .poll && !s.inbound.room (s.limitOf r.target)

/-- The record fits the time remaining in the gap (R73, R76). -/
def State.fits (s : State) (g : OpenGap) (r : Record) : Bool :=
  decide (s.now + s.bits (fitNeeds s.line.config r.kind (s.reservation r)) ≤ g.ends)

/-- The first hold of a POLL for room sets the polls-held flag and makes the occurrence (R82). -/
def State.holdPoll (s : State) (r : Record) : State :=
  if s.sched.pollsHeld = true then s
  else match r.target with
    | .station i => (s.setSched { s.sched with pollsHeld := true }).occur srcPollsHeld (.station i)
    | .broadcast => s

/-- The walk from a record on, `older` being the records before it (R83). -/
def State.walkFrom (s : State) (g : OpenGap) (older : List Record) : List Record → State
  | [] => s
  | r :: rest =>
    if s.eligible g.kind older r = true then
      if s.heldForRoom r = true then (s.holdPoll r).walkFrom g (older ++ [r]) rest
      else if s.fits g r = true then s.startAttempt r
      else s.walkFrom g (older ++ [r]) rest
    else s.walkFrom g (older ++ [r]) rest

/-- A walk, made only while the engine is RUNNING, a gap is open with time remaining, and no attempt is on the
line (R77, R83, R85). -/
def State.walk (s : State) : State :=
  match s.sched.openGap with
  | none => s
  | some g =>
    if s.engine.state = .running ∧ s.now < g.ends ∧ s.inFlight = none then s.walkFrom g [] s.txns else s

/-! ### Reset -/

/-- Something holds the part in reset (R175). -/
def Hold.held (h : Hold) : Bool := h.pinLow || h.powerAbsent || h.holdEnd.isSome

/-- The part is held in reset: it ignores host bytes, TRIG edges and line levels (R175). -/
def State.held (s : State) : Bool := s.hold.held

/-- A device reset: every block enters its reset state (R175). The time base, the commands still to come, what
holds the part in reset and the strap readings stay (log 14). -/
def State.deviceReset (s : State) : State :=
  { State.reset with
    now := s.now
    pending := s.pending
    hold := s.hold
    port := { HostPort.reset with mode := s.port.mode, baudHigh := s.port.baudHigh } }

/-- The line and the machine act on the part only while it is not held in reset (R175). -/
def State.whenFree (s : State) (f : State → State) : State := if s.held = true then s else f s

end Sys2Proof.Machine
end

