-- ==== Sys2Proof/Machine/Timing.lean ====
section
/-! DEFINITION. When the part acts on its own: the moment of each timed event as the schedule and the timers fix it,
and the passing of time up to such a moment (log 2, log 4). -/

namespace Sys2Proof.Machine

/-- The events whose moment the part itself fixes, in the order in which an idle step takes those that fall
together (log 3). -/
inductive Timed where
  | frameSent
  | reclaimEnd
  | guardEnd
  | talkLimit
  | responseTimer
  | gapEnd
  | segmentFrame
  | settleTimer
  | roundEnd
  | roundStart
  | gapOpening
  | replyLeaves
  | timeout
  | holdEnd
deriving DecidableEq, Repr

/-- All timed events, in that order. -/
def Timed.all : List Timed :=
  [.frameSent, .reclaimEnd, .guardEnd, .talkLimit, .responseTimer, .gapEnd, .segmentFrame, .settleTimer,
   .roundEnd, .roundStart, .gapOpening, .replyLeaves, .timeout, .holdEnd]

/-- The line is QUIET. -/
def State.isQuiet (s : State) : Bool := s.line.activity.state == .quiet

/-- The body of a reply: status, REPEAT flag, fields (R159, R168, R176). -/
def Reply.body (r : Reply) : Bytes := le1 r.status.code ++ leBool r.repeated ++ r.fields

/-- The bytes of a reply frame (R159). -/
def replyFrame (r : Reply) : Bytes := frameBytes r.tag r.kind r.body

/-- The number of bytes of a reply frame (R159). -/
def Reply.size (r : Reply) : Nat := 7 + r.body.length

/-- The duration of a reply on TXD, ten bit periods a byte, at 115,200 or 1,000,000 bit/s; rounded up to the
model's unit (R156, R158, log 8). -/
def HostPort.txDuration (p : HostPort) (r : Reply) : Time :=
  if p.baudHigh = true then r.size * 320 else (r.size * 25000 + 8) / 9

/-- The number of whole bit periods of the transmitter in a duration, 1 microsecond each or 1/115,200 second
(R156, R158). -/
def HostPort.txPeriods (p : HostPort) (t : Time) : Nat := if p.baudHigh = true then t / 32 else t * 9 / 2500

/-- The head reply has been clocked out in full in the present transfer (R164). -/
def HostPort.headComplete (p : HostPort) : Bool :=
  match p.replies with
  | [] => false
  | r :: _ => decide (r.size ≤ p.outPos)

/-- The host falls silent inside a frame for this long before TIMEOUT (R161). R161 does not say how the last byte's
moment falls against the 1 microsecond tick: the model counts from that moment itself (DESIGN CHOICE, log 28). -/
def frameSilence : Time := micros 2000

/-- The phase of the current attempt; none is IDLE (R92). -/
def State.phase (s : State) : Option Phase := s.attempt.map Attempt.phase

/-- The moment of the next round start, as the engine state and the mode fix it (R32, R33, R34). -/
def Engine.roundStartAt (e : Engine) : Option Time :=
  match e.state, e.config.mode with
  | .running, .timed => e.prevStart.map fun p => p + micros e.config.period
  | .running, .triggered => e.pendingStart <|> e.deadline
  | .settling, .triggered => e.pendingStart <|> e.deadline
  | .settling, .timed => none
  | .stopped, _ => none
  | .stopping, _ => none
  | .halted, _ => none

/-- The moment of a timed event, when the part is to take it in this state. -/
def State.dueAt (s : State) : Timed → Option Time
  | .frameSent =>
    match s.line.activity with
    | .sending f => some f.endAt
    | .off | .quiet _ | .offered _ | .listening _ | .reclaim _ => none
  | .reclaimEnd =>
    match s.line.activity with
    | .reclaim t => some t
    | .off | .quiet _ | .sending _ | .offered _ | .listening _ => none
  | .guardEnd =>
    match s.line.activity, s.phase with
    | .offered t, some .guard => some t
    | _, _ => none
  | .talkLimit =>
    match s.phase with
    | some (.receiving t) => some t
    | some (.trailer t) => some t
    | some (.ignoring t) => some t
    | some .sending | some .guard | some (.waiting _) | some .reclaiming | none => none
  | .responseTimer =>
    match s.phase with
    | some (.waiting t) => some t
    | some .sending | some .guard | some (.receiving _) | some (.trailer _) | some (.ignoring _)
    | some .reclaiming | none => none
  | .gapEnd => s.sched.openGap.map OpenGap.ends
  | .segmentFrame =>
    match s.engine.agenda with
    | .segment t _ :: _ =>
      if s.isQuiet = true ∧ (s.engine.state = .running ∨ s.engine.state = .stopping) then some t else none
    | _ => none
  | .settleTimer => if s.engine.state = .settling ∧ s.isQuiet = true then s.engine.settleEnd else none
  | .roundEnd => if s.engine.state = .stopping ∧ s.isQuiet = true then s.engine.roundEnd else none
  | .roundStart => if s.isQuiet = true then s.engine.roundStartAt else none
  | .gapOpening =>
    match s.engine.agenda with
    | .gap t _ _ :: _ => if s.isQuiet = true ∧ s.engine.state = .running then some t else none
    | _ => none
  | .replyLeaves =>
    match s.port.replies with
    | [] => none
    | r :: _ =>
      match s.port.mode with
      | .uart => some (s.port.headSince + s.port.txDuration r)
      | .spi => if s.port.headComplete = true then some s.now else none
  | .timeout =>
    if s.port.mode = .uart ∧ s.port.parser ≠ .hunting then some (s.port.lastByteAt + frameSilence) else none
  | .holdEnd => s.hold.holdEnd

/-- No timed event of the part falls before the moment `d`. -/
def State.nothingBefore (s : State) (d : Time) : Bool :=
  Timed.all.all fun e =>
    match s.dueAt e with
    | some t => decide (d ≤ t)
    | none => true

/-- Time passes to the moment `d`, unless an event of the part's own falls before it; a moment already reached
needs no passing (log 4). -/
def State.reach (s : State) (d : Time) : Option State :=
  if d ≤ s.now then some s
  else if s.nothingBefore d = true then some (s.setNow d)
  else none

/-- A timed event is taken: time passes to its moment and its effect follows. Where it is not to come, or an
event of the part's own falls before it, nothing happens (log 1, log 4). -/
def State.atMoment (s : State) (d : Option Time) (f : State → State) : State :=
  match d.bind s.reach with
  | some s' => f s'
  | none => s

/-- The first timed event, in the order of `Timed.all`, whose moment has come. -/
def State.dueNow (s : State) : Option Timed :=
  Timed.all.find? fun e =>
    match s.dueAt e with
    | some t => decide (t ≤ s.now)
    | none => false

end Sys2Proof.Machine
end

