-- ==== Sys2Proof/Machine/Attempts.lean ====
section
/-! DEFINITION. The end of an attempt (R57, R59, R103, R104): what the Station Table makes of the result
(R114 to R124, R130), the Inbound Queue of a message (R133 to R135), the Transaction List of the record (R59, R60,
R64, R65), and the walk that follows (R85). -/

namespace Sys2Proof.Machine

/-! ### Outcome classes -/

/-- A good reply (R114). -/
def TxnOutcome.isGood : TxnOutcome → Bool
  | .done | .doneNoted | .refused => true
  | .sent | .noResponse | .replyCorrupt | .replyCrc | .replyTruncated | .replyStale | .contention | .cancelled
  | .expired | .stationLost | .stationDisabled | .stopped | .lineFault | .unplaceable => false

/-- DONE or DONE_NOTED. -/
def TxnOutcome.isDone : TxnOutcome → Bool
  | .done | .doneNoted => true
  | .sent | .refused | .noResponse | .replyCorrupt | .replyCrc | .replyTruncated | .replyStale | .contention
  | .cancelled | .expired | .stationLost | .stationDisabled | .stopped | .lineFault | .unplaceable => false

/-- A counted failure of an attempt (R114, R115). -/
def TxnOutcome.isCounted : TxnOutcome → Bool
  | .noResponse | .replyCorrupt | .replyCrc | .replyTruncated => true
  | .done | .doneNoted | .sent | .refused | .replyStale | .contention | .cancelled | .expired | .stationLost
  | .stationDisabled | .stopped | .lineFault | .unplaceable => false

/-- A retryable outcome (R58). -/
def TxnOutcome.retryable : TxnOutcome → Bool
  | .noResponse | .replyCorrupt | .replyCrc | .replyTruncated | .contention => true
  | .done | .doneNoted | .sent | .refused | .replyStale | .cancelled | .expired | .stationLost
  | .stationDisabled | .stopped | .lineFault | .unplaceable => false

/-! ### Identity -/

/-- The identity in the 8 bytes of an IDENT payload, when it is valid (R122, R182). -/
def decodeIdentity (p : Bytes) : Option Identity :=
  if 1 ≤ u16 p 4 ∧ u16 p 4 ≤ 256 then
    some { typeCode := BitVec.ofNat 16 (u16 p 0), revision := p.getD 2 0, channels := (p.getD 3 0).truncate 4,
           maxLength := u16 p 4, serialLow := BitVec.ofNat 16 (u16 p 6) }
  else none

/-- The payload of the first frame, empty when there is none. -/
def Attempt.firstPayload (a : Attempt) : Bytes :=
  match a.first with
  | some j => j.frame.payload
  | none => []

/-- The valid identity a PROBE that ended DONE or DONE_NOTED hands on (R104, R110, R122). -/
def Attempt.identityFor (a : Attempt) (o : TxnOutcome) : Option Identity :=
  if a.kind = .probe ∧ o.isDone = true then decodeIdentity a.firstPayload else none

/-! ### Station Table -/

/-- A change of station state made by an attempt's result (R129). -/
inductive StationChange where
  | unchanged
  /-- ONLINE by an identity. -/
  | joined
  /-- ONLINE from SUSPECT. -/
  | recovered
  | suspected
  | lost
  | resynced
deriving DecidableEq, Repr

/-- The sequence bit after a result (R105). -/
def Station.seqAfter (st : Station) (k : TxnKind) (o : TxnOutcome) : Bool :=
  match k with
  | .write | .read | .poll => if o.isGood = true then !st.seqNext else st.seqNext
  | .probe => if o.isDone = true then false else st.seqNext
  | .send => st.seqNext

/-- The station joins: ONLINE by an identity (R117, R120, R121). No rule has joining clear probe_due, which is yes here after
a DISABLE and an ENABLE with a PROBE in flight (R124); the model keeps it (DESIGN CHOICE, log 31). -/
def Station.join (st : Station) (i : Identity) (now : Round) : Station :=
  { st with state := .online, identity := some i, seqNext := false, failures := 0, lastPollRound := now }

/-- The station is lost: OFFLINE (R123 step 1). probe_due stays as it is: where it is yes, the next PROBE comes by R125 and
not probe_interval rounds later (DESIGN CHOICE, log 31). -/
def Station.lose (st : Station) (now : Round) : Station :=
  { st with state := .offline, failures := 0, seqNext := false, lastProbeRound := now }

/-- The station enters RESYNC (R119). -/
def Station.resyncing (st : Station) : Station := { st with state := .resync, failures := 0 }

/-- A PROBE's result while OFFLINE (R120). -/
def Station.probedOffline (st : Station) (ident : Option Identity) (now : Round) : Station × StationChange :=
  match ident with
  | some i => (st.join i now, .joined)
  | none => ({ st with lastProbeRound := now }, .unchanged)

/-- A counted failure while SUSPECT or RESYNC: lost at lost_after (R118, R121, R123). -/
def Station.failTowardsLoss (st : Station) (now : Round) : Station × StationChange :=
  if st.failures + 1 = st.lostAfter then (st.lose now, .lost)
  else ({ st with failures := st.failures + 1 }, .unchanged)

/-- A PROBE's result while RESYNC (R121). -/
def Station.probedResync (st : Station) (o : TxnOutcome) (ident : Option Identity) (now : Round) :
    Station × StationChange :=
  match ident with
  | some i => (st.join i now, .joined)
  | none => if o = .contention then (st, .unchanged) else st.failTowardsLoss now

/-- A WRITE's, READ's, SEND's or POLL's result while ONLINE (R117, R119). -/
def Station.answeredOnline (st : Station) (o : TxnOutcome) : Station × StationChange :=
  if o.isGood = true then ({ st with failures := 0 }, .unchanged)
  else if o = .replyStale then (st.resyncing, .resynced)
  else if o.isCounted = true then
    if st.failures + 1 = st.suspectAfter then
      ({ st with failures := st.failures + 1, state := .suspect }, .suspected)
    else ({ st with failures := st.failures + 1 }, .unchanged)
  else (st, .unchanged)

/-- A WRITE's, READ's, SEND's or POLL's result while SUSPECT (R118, R119). -/
def Station.answeredSuspect (st : Station) (o : TxnOutcome) (now : Round) : Station × StationChange :=
  if o.isGood = true then ({ st with failures := 0, state := .online }, .recovered)
  else if o = .replyStale then (st.resyncing, .resynced)
  else if o.isCounted = true then st.failTowardsLoss now
  else (st, .unchanged)

/-- The failure count, the state and the identity after a result, by the state in which the attempt ended
(R117 to R124). A PROBE that ends at an ONLINE or SUSPECT station, and another kind that ends at a RESYNC
station, come about in no run; they leave the state as it is (DESIGN CHOICE, log 17). -/
def Station.applyState (st : Station) (k : TxnKind) (o : TxnOutcome) (ident : Option Identity) (now : Round) :
    Station × StationChange :=
  match st.state with
  | .disabled =>
    match ident with
    | some i => ({ st with identity := some i }, .unchanged)
    | none => (st, .unchanged)
  | .offline => if k = .probe then st.probedOffline ident now else (st, .unchanged)
  | .resync => if k = .probe then st.probedResync o ident now else (st, .unchanged)
  | .online => if k = .probe then (st, .unchanged) else st.answeredOnline o
  | .suspect => if k = .probe then (st, .unchanged) else st.answeredSuspect o now

/-- A PROBE that ended REFUSED or with an invalid identity (R121, R130). -/
def probeFailed (k : TxnKind) (o : TxnOutcome) (ident : Option Identity) : Bool :=
  k == .probe && (o == .refused || (o.isDone && ident.isNone))

/-- The statistics after a result (R130). -/
def Station.counted (st : Station) (k : TxnKind) (o : TxnOutcome) (ident : Option Identity) : Station :=
  { st with
    repliesGood :=
      if (o.isGood || o == .replyStale) && !probeFailed k o ident then heldSucc st.repliesGood else st.repliesGood
    failuresTotal :=
      if o.isCounted || probeFailed k o ident then heldSucc st.failuresTotal else st.failuresTotal }

/-- The last report after a result (R107). -/
def Station.reported (st : Station) (word : Option (BitVec 12)) (now : Round) : Station :=
  match word with
  | some w => { st with lastReport := some (w, now) }
  | none => st

/-- The Station Table applies a result to a station record, in the order of R114. -/
def Station.applyResult (st : Station) (k : TxnKind) (o : TxnOutcome) (ident : Option Identity)
    (word : Option (BitVec 12)) (now : Round) : Station × StationChange :=
  let r := Station.applyState { st with seqNext := st.seqAfter k o } k o ident now
  ((r.1.reported word now).counted k o ident, r.2)

/-- The occurrence a change of state makes: its source among the station's five, and its detail (R129). -/
def StationChange.event (c : StationChange) (k : TxnKind) (o : TxnOutcome) : Option (Fin 5 × Detail) :=
  match c with
  | .unchanged => none
  | .joined => some (0, .joined)
  | .recovered => some (0, .recovered)
  | .suspected => some (1, .outcome o)
  | .lost => some (2, .outcome o)
  | .resynced => some (3, .kind k)

/-- Step 1 of R104 for a station. -/
def State.stationResult (s : State) (i : StationId) (a : Attempt) (o : TxnOutcome) : State × StationChange :=
  let r := (s.station i).applyResult a.kind o (a.identityFor o) a.word s.engine.counter
  (s.setStation i r.1, r.2)

/-! ### Inbound Queue -/

/-- The message of a POLL that ended DONE or DONE_NOTED with a MESSAGE as its first frame (R104, R133). -/
def Attempt.messageFor (a : Attempt) (i : StationId) (o : TxnOutcome) (round : Round) : Option Message :=
  match a.first with
  | none => none
  | some j =>
    if a.kind = .poll ∧ o.isDone = true ∧ j.frame.header.kind = FrameKind.message.code then
      some { station := i, channel := j.frame.header.channel.toFin, payload := j.frame.payload, arrival := round,
             headerCorrected := j.frame.headerClass == .corrected,
             headerSuspect := j.frame.headerClass == .uncorrectable }
    else none

/-- The message is appended; reaching the threshold makes the occurrence (R133, R135). -/
def State.keepMessage (s : State) (m : Message) : State :=
  let s' := s.setInbound { s.inbound with messages := s.inbound.messages ++ [m] }
  if s'.inbound.messages.length = s.inbound.threshold then
    s'.occur srcInboundThreshold (.count s'.inbound.messages.length)
  else s'

/-- The message is discarded and counted at its station (R130, R133). -/
def State.discardMessage (s : State) (i : StationId) : State :=
  s.setStation i { s.station i with messagesDiscarded := heldSucc (s.station i).messagesDiscarded }

/-- An arrival is judged against the station's rx_mask (R133). -/
def State.arrive (s : State) (m : Message) : State :=
  if (s.station m.station).rxMask.getLsbD m.channel.val = true then s.keepMessage m
  else s.discardMessage m.station

/-- Step 2 of R104. -/
def State.inboundResult (s : State) (a : Attempt) (o : TxnOutcome) : State :=
  match a.target with
  | .broadcast => s
  | .station i =>
    match a.messageFor i o s.engine.counter with
    | some m => s.arrive m
    | none => s

/-! ### Transaction List -/

/-- The data an attempt hands to its completion: a READ's DATA payload (R104, R110). -/
def Attempt.dataFor (a : Attempt) (o : TxnOutcome) : Bytes :=
  if a.kind = .read ∧ o.isDone = true then a.firstPayload else []

/-- The last attempt result of this attempt (R57). -/
def Attempt.result (a : Attempt) (o : TxnOutcome) : AttemptResult :=
  { outcome := o, flags := a.flags, word := a.word, data := a.dataFor o }

/-- The record once its attempt has ended (R57). -/
def Record.attempted (r : Record) (res : AttemptResult) : Record :=
  { r with onLine := false, attempts := r.attempts + 1, last := some res }

/-- The retry conditions of R60, with attempts already raised. -/
def State.mayRetry (s : State) (r : Record) : Bool :=
  decide (r.attempts ≤ r.retryBudget) && !r.cancelRequested && s.stationReady r.target
  && (match r.expiryRound with
      | some e => roundAtOrBefore s.engine.counter e
      | none => true)

/-- The completion of a record made by the end of its attempt (R59 steps 1, 3 and 4, R68, R108). -/
def Record.attemptCompletion (r : Record) (res : AttemptResult) (round : Round) : Completion :=
  { id := r.id, kind := r.kind, target := r.target, channel := r.channel
    outcome := if res.outcome.retryable = true ∧ r.cancelRequested = true then .cancelled else res.outcome
    attempts := r.attempts, round := round, flags := res.flags
    word := if res.outcome = .refused ∨ res.outcome = .doneNoted then res.word else none
    data := res.data }

/-- Remove the record of this id from the list. -/
def dropRecord (id : Nat) (txns : List Record) : List Record := txns.filter fun x => x.id != id

/-- Put a record back in the place of the record with its id. -/
def replaceRecord (r : Record) (txns : List Record) : List Record :=
  txns.map fun x => if x.id = r.id then r else x

/-- The Transaction List treats the record whose attempt ended (R56, R59). -/
def State.treatRecord (s : State) (res : AttemptResult) : State :=
  match s.inFlight with
  | none => s
  | some r =>
    let r' := r.attempted res
    if r.isHost = false then s.setTxns (dropRecord r.id s.txns)
    else if res.outcome.retryable = true ∧ s.mayRetry r' = true then s.setTxns (replaceRecord r' s.txns)
    else (s.setTxns (dropRecord r.id s.txns)).queueReport
      (.completion (r'.attemptCompletion res s.engine.counter))

/-- The station's flush that a change of state calls for (R59, R64, R65). -/
def State.flushFor (s : State) (i : StationId) (c : StationChange) : State :=
  match c with
  | .lost => (s.completeAll (Record.names i) .stationLost).removeInternal (Record.names i)
  | .resynced => s.removeInternal fun r => r.names i && r.kind == .poll
  | .unchanged | .joined | .recovered | .suspected => s

/-- The station's occurrences at the end of an attempt: its state event, then ERROR_REPORT (R107, R129). -/
def State.stationEvents (s : State) (i : StationId) (c : StationChange) (a : Attempt) (o : TxnOutcome) : State :=
  let s' := match c.event a.kind o with
    | some (k, d) => s.occur (stationSource i k) d
    | none => s
  match a.word with
  | some w => s'.occur (stationSource i 4) (.word w)
  | none => s'

/-- The results of an attempt to a station are handed on in the order of R104, steps 1 to 3 (R59). -/
def State.handOn (s : State) (i : StationId) (a : Attempt) (o : TxnOutcome) : State :=
  let r := s.stationResult i a o
  (((r.1.inboundResult a o).treatRecord (a.result o)).flushFor i r.2).stationEvents i r.2 a o

/-- An attempt ends with its outcome: the current attempt is discarded, its results are handed on, and a walk
follows (R57, R85, R103, R104). A SEND to broadcast reaches no station record. -/
def State.endAttempt (s : State) (a : Attempt) (o : TxnOutcome) : State :=
  let s0 := s.setAttempt none
  (match a.target with
    | .station i => s0.handOn i a o
    | .broadcast => s0.treatRecord (a.result o)).walk

end Sys2Proof.Machine
end

