-- ==== Sys2Proof/Machine/Rounds.lean ====
section
/-! DEFINITION. The Round Engine's events (chapter 2): SETTLE_TIMER_EXPIRY, TRIG_EDGE, ROUND_START, SEGMENT_FRAME,
GAP_OPENING, GAP_END, ROUND_END_STOPPING, LINE_FAULT, and the entries to STOPPED and HALTED. -/

namespace Sys2Proof.Machine

/-! ### Entries to STOPPED and HALTED -/

/-- The engine leaves a run: state entered, trigger state and timers cleared, the rest of the round abandoned
(R30, R31). -/
def Engine.endRun (e : Engine) (st : EngineState) : Engine :=
  { e with state := st, prevStart := none, pendingStart := none, deadline := none, settleEnd := none,
           roundEnd := none, agenda := [] }

/-- The open gap becomes none (R72). -/
def State.closeGap (s : State) : State := s.setSched { s.sched with openGap := none }

/-- Entry to STOPPED from SETTLING or STOPPING (R30, R72). -/
def State.enterStopped (s : State) : State :=
  ((((s.setActivity .off).setEngine (s.engine.endRun .stopped)).closeGap).flushAll .stopped).occur
    srcEngineState (.engine .stopped)

/-- Entry to STOPPED from HALTED (R30). -/
def State.clearFault (s : State) : State :=
  (s.setEngine { s.engine with state := .stopped }).occur srcEngineState (.engine .stopped)

/-- A LINE_FAULT is taken (R31, R72). -/
def State.enterHalted (s : State) : State :=
  ((((((s.setEngine (s.engine.endRun .halted)).setActivity .off).closeGap).flushAll .lineFault).occur
    srcLineFault (.engine s.engine.state)).occur srcEngineState (.engine .halted))

/-! ### The start of a round -/

/-- The trigger state after a round start (R28 steps 2 and 3). -/
def Engine.raised (e : Engine) (now : Time) : Engine :=
  { e with
    counter := e.counter + 1
    prevStart := some now
    pendingStart := none
    deadline := match e.config.mode with
      | .timed => none
      | .triggered => some (now + micros e.config.maxPeriod)
    settleEnd := none }

/-- Commit and ageing of one record (R45). -/
def Segment.commit (g : Segment) : Segment :=
  match g.staged with
  | some p => { g with active := p, staged := none, age := 0 }
  | none => { g with age := min 255 (g.age + 1) }

/-- The record becomes stale at this round start (R46). -/
def Segment.becomesStale (g : Segment) : Bool := !g.stale && g.commit.stale

/-- The SEGMENT_STALE occurrences of these indices, in order (R46). -/
def State.staleOccurrences (s : State) : List SegmentIndex → State
  | [] => s
  | k :: rest => (s.occur srcSegmentStale (.segment k)).staleOccurrences rest

/-- The Segment Table at a round start (R28 step 5, R45, R46). -/
def State.commitTable (s : State) : State :=
  (s.setEngine { s.engine with table := s.engine.table.map Segment.commit }).staleOccurrences
    ((s.engine.table.filter Segment.becomesStale).map Segment.index)

/-- The record is swept at this round start: E is before the round counter (R63). -/
def Record.sweptAt (counter : Round) (r : Record) : Bool :=
  match r.expiryRound with
  | some e => roundBefore e counter
  | none => false

/-- Anchoring and becoming due at a round start (R51). Unanchored records are met at round 1 only, where the
anchor round 1 is the counter (DEDUCED, log 19). -/
def Record.atRoundStart (counter : Round) (r : Record) : Record :=
  match r.anchor with
  | none => r.anchored counter
  | some a => { r with due := r.due || a.earliest == counter }

/-- The list's part of the hand-over: sweep, then anchoring (R28 step 6, R51, R63). -/
def State.sweepAndAnchor (s : State) : State :=
  let s' := s.completeAll (Record.sweptAt s.engine.counter) .expired
  s'.setTxns (s'.txns.map (Record.atRoundStart s.engine.counter))

/-- An internal record as generated (R50, R56). -/
def internalRecord (k : TxnKind) (i : StationId) (counter : Round) : Record :=
  { id := (if k = .poll then 0xF000 else 0xF100) + i.val, kind := k, target := .station i, channel := 0, length := 0,
    payload := [], placement := if k = .poll then .any else .closing, delay := 0, lifetime := none, retryBudget := 0,
    anchor := some { earliest := counter, expiry := none }, due := true, attempts := 0, onLine := false,
    cancelRequested := false, last := none }

/-- What the station's schedule calls for at a round start, when it has no internal record (R88, R125). An OFFLINE station
with probe_due yes is probed at once, also after a loss, for which R123 names probe_interval (DESIGN CHOICE, log 31). -/
def Station.calls (st : Station) (counter : Round) : Option TxnKind :=
  match st.state with
  | .disabled => none
  | .offline =>
    if st.probeDue = true ∨ st.probeInterval ≤ roundsSince counter st.lastProbeRound then some .probe else none
  | .resync => some .probe
  | .online | .suspect =>
    if 0 < st.pollInterval ∧ st.pollInterval ≤ roundsSince counter st.lastPollRound then some .poll else none

/-- The station's bookkeeping when a record is appended (R89, R125). -/
def Station.generated (st : Station) (k : TxnKind) (counter : Round) : Station :=
  match k with
  | .poll => { st with lastPollRound := counter }
  | .probe => { st with lastProbeRound := counter, probeDue := false }
  | .write | .read | .send => st

/-- Generation for one station (R88). -/
def State.generateFor (s : State) (i : StationId) : State :=
  if (s.internalOf i).isSome = true then s
  else match (s.station i).calls s.engine.counter with
    | none => s
    | some k =>
      (s.setTxns (s.txns ++ [internalRecord k i s.engine.counter])).setStation i
        ((s.station i).generated k s.engine.counter)

/-- Generation for these stations in order (R88). -/
def State.generate (s : State) : List StationId → State
  | [] => s
  | i :: rest => (s.generateFor i).generate rest

/-- Stations 0 to 7 in ascending order. -/
def allStations : List StationId := [0, 1, 2, 3, 4, 5, 6, 7]

/-- The header of a SYNC frame: the low 12 bits of the raised counter (R7, R39). -/
def syncHeader (counter : Round) : Header :=
  { kind := FrameKind.sync.code, seq := false, turn := false, mark := false, station := 15, channel := 0,
    length := counter.truncate 12 }

/-- The SYNC frame begins at the start time itself (R13, R28). -/
def State.sendSync (s : State) : State :=
  s.setActivity (.sending
    { kind := .sync, header := syncHeader s.engine.counter, payload := [], startAt := s.now,
      endAt := s.now + s.bits shortFrame, contended := false })

/-- The layout of the round that starts now (R35, R37). -/
def State.layRound (s : State) : State :=
  s.setEngine { s.engine with agenda := agenda s.line.config s.engine.config s.engine.table s.now }

/-- From SETTLING the engine enters RUNNING, with its occurrence (R28 step 4). -/
def State.enterRunning (s : State) : State :=
  if s.engine.state = .settling then
    (s.setEngine { s.engine with state := .running }).occur srcEngineState (.engine .running)
  else s

/-- The start of a round at this moment (R28), `missing` when the deadline fixed it. -/
def State.startRound (s : State) (missing : Bool) : State :=
  let s1 := if missing = true then s.occur srcTrigger .missing else s
  let s2 := (s1.setEngine (s1.engine.raised s.now)).enterRunning
  ((s2.commitTable.sweepAndAnchor.generate allStations).sendSync).layRound

/-- SETTLE_TIMER_EXPIRY (R27): in TIMED mode round 1 starts at once (DEDUCED as one step, log 15); in TRIGGERED mode
the moment is the reference of the deadline (R34). -/
def State.settleExpired (s : State) : State :=
  match s.engine.config.mode with
  | .timed => s.startRound false
  | .triggered =>
    s.setEngine { s.engine with settleEnd := none, deadline := some (s.now + micros s.engine.config.maxPeriod) }

/-- SETTLE_TIMER_EXPIRY. -/
def execSettleTimerExpiry (s : State) : Host.Outcome State Fault Refusal :=
  .next (s.whenFree fun s => s.atMoment (s.dueAt .settleTimer) State.settleExpired)

/-- The round start was fixed by the max_period deadline: TRIGGERED mode with no pending start (R33, R34). -/
def Engine.fixedByDeadline (e : Engine) : Bool := e.config.mode == .triggered && e.pendingStart.isNone

/-- ROUND_START (R28, R32, R33, R34). -/
def execRoundStart (s : State) : Host.Outcome State Fault Refusal :=
  .next (s.whenFree fun s => s.atMoment (s.dueAt .roundStart) fun s => s.startRound s.engine.fixedByDeadline)

/-! ### Triggers -/

/-- The edge fixes the next round start (R33, R34). -/
def State.acceptEdge (s : State) : State :=
  s.setEngine { s.engine with pendingStart := some (tickOf s.now + micros s.engine.config.triggerDelay) }

/-- The edge's delayed start keeps min_period from the previous round start (R33). -/
def State.edgeInTime (s : State) : Bool :=
  match s.engine.prevStart with
  | some p => decide (p + micros s.engine.config.minPeriod ≤ tickOf s.now + micros s.engine.config.triggerDelay)
  | none => true

/-- A TRIG edge is judged (R24, R32, R33, R34). -/
def State.trigEdge (s : State) : State :=
  match s.engine.config.mode, s.engine.state with
  | .timed, _ => s
  | .triggered, .running =>
    if s.engine.pendingStart = none ∧ s.edgeInTime = true then s.acceptEdge else s.occur srcTrigger .early
  | .triggered, .settling =>
    if s.engine.settleEnd.isSome = true then s
    else if s.engine.pendingStart = none then s.acceptEdge
    else s.occur srcTrigger .early
  | .triggered, .stopped => s
  | .triggered, .stopping => s
  | .triggered, .halted => s

/-- TRIG_EDGE. -/
def execTrigEdge (s : State) : Host.Outcome State Fault Refusal := .next (s.whenFree State.trigEdge)

/-! ### Segment frames and gaps -/

/-- The header of a SEGMENT frame (R7, R36). -/
def Segment.header (g : Segment) : Header :=
  { kind := FrameKind.segment.code, seq := false, turn := false, mark := g.stale,
    station := BitVec.ofNat 4 g.destination.code, channel := BitVec.ofNat 2 g.channel.val,
    length := BitVec.ofNat 12 g.len }

/-- The SEGMENT frame of a record, sent now (R13, R36). -/
def State.segmentFrame (s : State) (g : Segment) : SendFrame :=
  { kind := .segment, header := g.header, payload := g.active, startAt := s.now,
    endAt := s.now + s.bits (longFrame g.len), contended := false }

/-- The segment of an index. -/
def Engine.segment (e : Engine) (k : SegmentIndex) : Option Segment := e.table.find? fun g => g.index == k

/-- The next item of the layout is a segment frame, sent at its time (R36). -/
def State.sendSegment (s : State) : State :=
  match s.engine.agenda with
  | .segment _ k :: rest =>
    let s' := s.setEngine { s.engine with agenda := rest }
    match s.engine.segment k with
    | some g => s'.setActivity (.sending (s'.segmentFrame g))
    | none => s'
  | _ => s

/-- SEGMENT_FRAME (R36). -/
def execSegmentFrame (s : State) : Host.Outcome State Fault Refusal :=
  .next (s.whenFree fun s => s.atMoment (s.dueAt .segmentFrame) State.sendSegment)

/-- The next item of the layout is a gap opening: it becomes the open gap and a walk follows at once (R37, R72, R83). -/
def State.openGap (s : State) : State :=
  match s.engine.agenda with
  | .gap _ k ends :: rest =>
    ((s.setEngine { s.engine with agenda := rest }).setSched
      { s.sched with openGap := some { kind := k, ends := ends } }).walk
  | _ => s

/-- GAP_OPENING (R37, R72). -/
def execGapOpening (s : State) : Host.Outcome State Fault Refusal :=
  .next (s.whenFree fun s => s.atMoment (s.dueAt .gapOpening) State.openGap)

/-- GAP_END (R72). -/
def execGapEnd (s : State) : Host.Outcome State Fault Refusal :=
  .next (s.whenFree fun s => s.atMoment (s.dueAt .gapEnd) State.closeGap)

/-! ### The end of a STOPPING round and the line fault -/

/-- ROUND_END_STOPPING (R30). -/
def execRoundEndStopping (s : State) : Host.Outcome State Fault Refusal :=
  .next (s.whenFree fun s => s.atMoment (s.dueAt .roundEnd) State.enterStopped)

/-- A run is in progress: a LINE_FAULT is taken in SETTLING, RUNNING and STOPPING (R31). -/
def EngineState.inRun : EngineState → Bool
  | .settling | .running | .stopping => true
  | .stopped | .halted => false

/-- The monitor at the moment `now`: bit times that have ended and for which no level was given read high, the level an
undisturbed pair rests at (log 9). -/
def StuckMonitor.caughtUp (m : StuckMonitor) (bit now : Time) : StuckMonitor :=
  if 0 < (now - m.countedTo) / bit then
    { countedTo := m.countedTo + (now - m.countedTo) / bit * bit, lows := 0 }
  else m

/-- One more bit time is counted (R21): a high sample resets the count. -/
def StuckMonitor.count (m : StuckMonitor) (bit : Time) (high : Bool) : StuckMonitor :=
  { countedTo := m.countedTo + bit, lows := if high = true then 0 else m.lows + 1 }

/-- The monitor counts these samples of successive bit times, and stops counting when it reaches `stuck` (R21). -/
def StuckMonitor.countAll (m : StuckMonitor) (bit : Time) (stuck : Nat) : List Bool → StuckMonitor
  | [] => m
  | high :: rest =>
    if stuck ≤ (m.count bit high).lows then m.count bit high else (m.count bit high).countAll bit stuck rest

/-- The stuck-line monitor after these samples of LINE_SENSE; it runs in QUIET only, which is in a run (R12, R21). -/
def State.stuckAfter (s : State) (levels : List Bool) : Option StuckMonitor :=
  match s.line.activity with
  | .quiet m =>
    if s.engine.state.inRun = true then
      some ((m.caughtUp (s.bits 1) s.now).countAll (s.bits 1) s.line.config.stuckTime levels)
    else none
  | .off | .sending _ | .offered _ | .listening _ | .reclaim _ => none

/-- The monitor has come to `m`: LINE_FAULT when the count has reached stuck_time, and nothing else (R21). -/
def State.monitored (m : StuckMonitor) (s : State) : State :=
  if s.line.config.stuckTime ≤ m.lows then s.enterHalted else s.setActivity (.quiet m)

/-- LINE_FAULT (R21, R31): the levels LINE_SENSE reads in the bit times to come, true for high, are counted up to their
end or to the report (log 9). -/
def execLineFault (s : State) (levels : List Bool := List.replicate 4095 false) :
    Host.Outcome State Fault Refusal :=
  .next (s.whenFree fun s =>
    match s.stuckAfter levels with
    | some m => s.atMoment (some m.countedTo) (State.monitored m)
    | none => s)

end Sys2Proof.Machine
end

