-- ==== Sys2Proof/Machine/Turns.lean ====
section
/-! DEFINITION. The line's events and the turn (chapters 1 and 5): FRAME_SENT, CONTENTION, GUARD_END, STATION_START,
RESPONSE_TIMER_EXPIRY, DECODED_FRAME, TALK_LIMIT_EXPIRY and RECLAIM_END. -/

namespace Sys2Proof.Machine

/-- The current attempt moves to a phase. -/
def State.setPhase (s : State) (a : Attempt) (p : Phase) : State := s.setAttempt (some { a with phase := p })

/-! ### The master frame -/

/-- A master frame's closing symbol has been sent (R14, R93): END returns the line to QUIET and ends a SEND attempt;
TURN offers the line and starts the guard. -/
def State.frameSent (s : State) (f : SendFrame) : State :=
  match s.attempt with
  | none => s.goQuiet
  | some a =>
    if f.kind.closesWithTurn = true then
      (s.setActivity (.offered (s.now + s.bits s.line.config.turnGuard))).setPhase a .guard
    else if f.kind = .send then s.goQuiet.endAttempt a .sent
    else s.goQuiet

/-- FRAME_SENT (R14). -/
def execFrameSent (s : State) : Host.Outcome State Fault Refusal :=
  .next (s.whenFree fun s => s.atMoment (s.dueAt .frameSent) fun s =>
    match s.line.activity with
    | .sending f => s.frameSent f
    | .off | .quiet _ | .offered _ | .listening _ | .reclaim _ => s)

/-- The frame is a transaction frame, owned by the Turn Controller; SYNC and SEGMENT are the Round Engine's (R14). -/
def SendFrame.isTransaction (f : SendFrame) : Bool := !(f.kind == .sync || f.kind == .segment)

/-- A contention counts once and makes its occurrence (R20). -/
def State.countContention (s : State) (f : SendFrame) : State :=
  (s.setLine { s.line with contentions := heldSucc s.line.contentions }).occur srcContention (.frame f.kind)

/-- The abort of a frame under YIELD (R18): a transaction frame's guard lasts G bit times; a SYNC or SEGMENT frame's
RECLAIM ends by the frame's scheduled end. -/
def State.abortFrame (s : State) (f : SendFrame) : State :=
  if f.isTransaction = true then
    match s.attempt with
    | some a => s.goReclaim.setAttempt (some { a with phase := .reclaiming, provisional := some .contention })
    | none => s.goReclaim
  else s.setActivity (.reclaim (min (s.now + s.bits s.line.config.turnGuard) f.endAt))

/-- A mismatch found on the frame being sent (R18, R19, R20): the first of the frame only. -/
def State.contend (s : State) : State :=
  match s.line.activity with
  | .sending f =>
    if f.contended = true ∨ f.endAt ≤ s.now then s
    else match s.line.config.contentionPolicy with
      | .yield => (s.countContention f).abortFrame f
      | .persist => (s.setActivity (.sending { f with contended := true })).countContention f
  | .off | .quiet _ | .offered _ | .listening _ | .reclaim _ => s

/-- The bit times from the first one the monitor watches to the START: the leading idle of a transaction frame (R4, R18). -/
def SendFrame.leadBits (f : SendFrame) : Nat := if f.isTransaction = true then interFrameIdle else 0

/-- The level the master drives in a bit time of the frame, numbered from the first one of the leading idle or the START,
true for high; none after the closing symbol (R1, R3, R4, R18). -/
def SendFrame.drivenAt (f : SendFrame) (bit : Nat) : Option Bool :=
  if bit < f.leadBits then some true
  else (f.byteTimes[(bit - f.leadBits) / 10]?).map fun t => t.getLsbD ((bit - f.leadBits) % 10)

/-- The middle of a bit time of the frame (R18). -/
def State.middleOf (s : State) (f : SendFrame) (bit : Nat) : Time := f.startAt + s.bits bit + s.halfBit

/-- The moment at which the monitor finds LINE_SENSE at this level in a bit time of the frame that is being sent, when
that is a mismatch and the moment has not gone by (R18, log 10). -/
def State.mismatchAt (s : State) (bit : Nat) (high : Bool) : Option Time :=
  match s.line.activity with
  | .sending f =>
    if f.drivenAt bit = some (!high) ∧ s.now ≤ s.middleOf f bit then some (s.middleOf f bit) else none
  | .off | .quiet _ | .offered _ | .listening _ | .reclaim _ => none

/-- CONTENTION (R18, R19, R20): LINE_SENSE reads `high` in the middle of this bit time of the frame. -/
def execContention (s : State) (bit : Nat := 0) (high : Bool := false) : Host.Outcome State Fault Refusal :=
  .next (s.whenFree fun s => s.atMoment (s.mismatchAt bit high) State.contend)

/-! ### The offered line -/

/-- The guard has ended (R94): in GUARD the response timer starts at T. -/
def State.guardEnded (s : State) : State :=
  match s.attempt with
  | some a => if a.phase = .guard then s.setPhase a (.waiting (s.now + s.bits a.timeout)) else s
  | none => s

/-- GUARD_END (R15, R94). -/
def execGuardEnd (s : State) : Host.Outcome State Fault Refusal :=
  .next (s.whenFree fun s => s.atMoment (s.dueAt .guardEnd) State.guardEnded)

/-- A station START begins now (R11, R15, R16, R94, R95, R96): in OFFERED the line enters LISTENING and the talk limit
starts at A; in LISTENING with no frame in progress the receiver takes up the next frame. Inside a frame no edge is looked
for (R1), and in the other line states the receiver is off. -/
def State.stationStart (s : State) : State :=
  match s.line.activity, s.attempt with
  | .offered _, some a =>
    (s.setActivity (.listening (.inFrame s.now))).setPhase a (.receiving (s.now + s.bits a.allowance))
  | .listening (.noFrame _), _ => s.setActivity (.listening (.inFrame s.now))
  | _, _ => s

/-- STATION_START (R2, R11, R15): a falling edge now, after which the line stays low for `low` full bit times. It is a
START when they are ten; otherwise the receiver waits for the next falling edge. -/
def execStationStart (s : State) (low : Nat := 10) : Host.Outcome State Fault Refusal :=
  .next (s.whenFree fun s => if 10 ≤ low then s.stationStart else s)

/-- The response timer expires (R15, R95). -/
def State.responseExpired (s : State) : State :=
  match s.attempt with
  | some a => s.goReclaim.setAttempt (some { a with phase := .reclaiming, provisional := some .noResponse })
  | none => s

/-- RESPONSE_TIMER_EXPIRY (R95). -/
def execResponseTimerExpiry (s : State) : Host.Outcome State Fault Refusal :=
  .next (s.whenFree fun s => s.atMoment (s.dueAt .responseTimer) State.responseExpired)

/-! ### The checks of R98 -/

/-- The kinds allowed as a first frame (R96). -/
def TxnKind.allows (k : TxnKind) (f : FrameKind) : Bool :=
  f == .errorReport ||
  match k with
  | .write => f == .ack
  | .read => f == .data
  | .poll => f == .nothing || f == .message
  | .probe => f == .ident
  | .send => false

/-- Step 4: ACK and DATA carry the attempt's channel; the others are not judged. -/
def channelAgrees (a : Attempt) (k : FrameKind) (h : Header) : Bool :=
  match k with
  | .ack | .data => h.channel == BitVec.ofNat 2 a.channel.val
  | .sync | .segment | .write | .read | .send | .poll | .join | .nothing | .message | .ident | .errorReport => true

/-- Step 5: the length field is valid for the kind and the byte count agrees with it, with overrun no (R99). -/
def lengthAgrees (a : Attempt) (k : FrameKind) (f : DecodedFrame) : Bool :=
  let l := f.header.length.toNat
  !f.overrun &&
  match k with
  | .ack | .nothing => decide (l = 0 ∧ f.byteCount = 4)
  | .errorReport => decide (f.byteCount = 4)
  | .data => decide (1 ≤ l ∧ l ≤ a.length ∧ f.byteCount = 6 + l)
  | .message => decide (1 ≤ l ∧ l ≤ a.msgLimit ∧ f.byteCount = 6 + l)
  | .ident => decide (l = 8 ∧ f.byteCount = 14)
  | .sync | .segment | .write | .read | .send | .poll | .join => false

/-- Step 7: turn and mark agree with the closing; an ERROR_REPORT has mark 0 and closes with TURN. -/
def closingAgrees (k : FrameKind) (f : DecodedFrame) : Bool :=
  if f.header.mark = true then
    k != .errorReport && !f.header.turn && f.closing == .ended
  else f.header.turn && f.closing == .turn

/-- The flag of step 1. -/
def TxnFlags.withHeader (fl : TxnFlags) (p : HeaderPolicy) (c : HeaderClass) : TxnFlags :=
  match c, p with
  | .clean, _ => fl
  | .corrected, _ => { fl with headerCorrected := true }
  | .uncorrectable, .lenient => { fl with headerSuspect := true }
  | .uncorrectable, .strict => fl

/-- The flag of step 6. -/
def TxnFlags.withCrc (fl : TxnFlags) (c : CrcResult) : TxnFlags :=
  match c with
  | .unchecked => { fl with crcUnchecked := true }
  | .absent | .agrees | .mismatch => fl

/-- Steps 2 to 5 of R98 for a frame of kind `k` in an attempt that allows the kinds `allowed`. -/
def stepsTwoToFive (a : Attempt) (allowed : FrameKind → Bool) (k : FrameKind) (f : DecodedFrame) : Bool :=
  allowed k && f.header.station == BitVec.ofNat 4 a.target.code && channelAgrees a k f.header && lengthAgrees a k f

/-- A frame is judged by the steps of R98 in order: the outcome of the first failing step if one fails, and the
attempt's flags after the judgement. R98 gives CRC_UNCHECKED in step 6, and the row of R109 names any judged long frame whose
CRC result is UNCHECKED: a frame that fails one of steps 2 to 5 leaves the flag as it was (DESIGN CHOICE, log 30). -/
def judgeFrame (p : HeaderPolicy) (a : Attempt) (allowed : FrameKind → Bool) (f : DecodedFrame) :
    Option TxnOutcome × TxnFlags :=
  if f.headerClass = .uncorrectable ∧ p = .strict then (some .replyCorrupt, a.flags)
  else
    let fl := a.flags.withHeader p f.headerClass
    match FrameKind.ofCode f.header.kind with
    | none => (some .replyCorrupt, fl)
    | some k =>
      if stepsTwoToFive a allowed k f = false then (some .replyCorrupt, fl)
      else if k.isLong = true ∧ f.crc = .mismatch then (some .replyCrc, fl)
      else
        let fl' := if k.isLong = true then fl.withCrc f.crc else fl
        if closingAgrees k f = false then (some .replyCorrupt, fl') else (none, fl')

/-- The frame is an ERROR_REPORT. -/
def DecodedFrame.isErrorReport (f : DecodedFrame) : Bool := f.header.kind == FrameKind.errorReport.code

/-- The echo of a first frame that passed: a PROBE's is not compared (R105). -/
def Attempt.echoMatches (a : Attempt) (f : DecodedFrame) : Bool :=
  match a.sentSeq with
  | some b => f.header.seq == b
  | none => true

/-- The provisional outcome of a first frame that passed (R97, R105). -/
def Attempt.passedOutcome (a : Attempt) (f : DecodedFrame) : TxnOutcome :=
  if a.echoMatches f = false then .replyStale else if f.isErrorReport = true then .refused else .done

/-- RECLAIMING after a frame closed with TURN, and otherwise the phase given (R97, R100, R101). -/
def phaseAfter (c : Closing) (p : Phase) : Phase := if c = .turn then .reclaiming else p

/-- The attempt after its first frame (R97, R107). -/
def Attempt.takeFirst (a : Attempt) (p : HeaderPolicy) (limit : Time) (f : DecodedFrame) : Attempt :=
  let v := judgeFrame p a a.kind.allows f
  match v.1 with
  | some o =>
    { a with first := some { frame := f, failure := some o }, flags := v.2, provisional := some o,
             phase := phaseAfter f.closing (.ignoring limit) }
  | none =>
    { a with first := some { frame := f, failure := none }, flags := v.2,
             provisional := some (a.passedOutcome f),
             word := if f.isErrorReport = true then some f.header.length else none,
             phase := if f.header.mark = true then .trailer limit else .reclaiming }

/-- The trailer's further check: its seq is the first frame's (R100). -/
def Attempt.trailerEcho (a : Attempt) (f : DecodedFrame) : Bool :=
  match a.first with
  | some j => f.header.seq == j.frame.header.seq
  | none => false

/-- The attempt after its trailer (R100, R107). -/
def Attempt.takeTrailer (a : Attempt) (p : HeaderPolicy) (limit : Time) (f : DecodedFrame) : Attempt :=
  let v := judgeFrame p a (fun k => k == .errorReport) f
  let failure := if v.1 = none ∧ a.trailerEcho f = false then some TxnOutcome.replyCorrupt else v.1
  match failure with
  | some o =>
    { a with trailer := some { frame := f, failure := some o }, flags := { v.2 with trailerBad := true },
             phase := phaseAfter f.closing (.ignoring limit) }
  | none =>
    { a with trailer := some { frame := f, failure := none }, flags := v.2,
             provisional := if a.provisional = some .done then some .doneNoted else a.provisional,
             word := some f.header.length, phase := .reclaiming }

/-- The attempt after a decoded frame, by its phase (R97, R100, R101). -/
def Attempt.takeFrame (a : Attempt) (p : HeaderPolicy) (f : DecodedFrame) : Attempt :=
  match a.phase with
  | .receiving limit => a.takeFirst p limit f
  | .trailer limit => a.takeTrailer p limit f
  | .ignoring limit => { a with phase := phaseAfter f.closing (.ignoring limit) }
  | .sending | .guard | .waiting _ | .reclaiming => a

/-! ### Delivery -/

/-- The receiver after a frame that left the line LISTENING (R11): a START inside the frame begins a new one. For a frame
of fewer than four data bytes that a START ends, the table of R11 begins a new frame with that START and the paragraph
below it has the receiver wait for the next one; the model follows the table (DESIGN CHOICE, log 27). -/
def receiverAfter (s : State) (e : FrameEnd) : Receiver :=
  match e with
  | .start => .inFrame (s.now - s.bits 10)
  | .ended | .turn | .brokenOff | .unfinished => .noFrame s.now

/-- The decoded frame is delivered (R11, R16). -/
def State.deliver (s : State) (bytes : Bytes) (e : FrameEnd) : State :=
  match s.attempt with
  | none => s
  | some a =>
    let f := decodeStationFrame s.line.config.crcCheck bytes e
    let s' := s.setAttempt (some (a.takeFrame s.line.config.headerPolicy f))
    if f.closing = .turn then s'.goReclaim else s'.setActivity (.listening (receiverAfter s e))

/-- The end of the station frame in progress when `n` byte times follow its START: ten bit times for the START and for
each (R1, R11). -/
def State.frameEndAt (s : State) (n : Nat) : Option Time :=
  match s.line.activity with
  | .listening (.inFrame start) => some (start + s.bits (10 * (n + 1)))
  | .listening (.noFrame _) | .off | .quiet _ | .sending _ | .offered _ | .reclaim _ => none

/-- DECODED_FRAME (R11, R16, R97): the byte times after the START of the frame in progress, the one that ends it last
(log 11); byte times that do not end a frame deliver none. A frame whose end has gone by when the command is given is
delivered at the present moment, and RECLAIM and a START that ended it are dated from there (DESIGN CHOICE, log 29). -/
def execDecodedFrame (byteTimes : List ByteTime) (s : State) : Host.Outcome State Fault Refusal :=
  .next (s.whenFree fun s =>
    let (bytes, e) := collectBytes byteTimes
    if e = .unfinished then s
    else s.atMoment (s.frameEndAt (bytes.length + 1)) fun s => s.deliver bytes e)

/-- The attempt when the talk limit expires (R102). -/
def Attempt.cutOff (a : Attempt) : Attempt :=
  match a.phase with
  | .receiving _ => { a with phase := .reclaiming, provisional := some .replyTruncated }
  | .trailer _ => { a with phase := .reclaiming, flags := { a.flags with noReturn := true, trailerBad := true } }
  | .ignoring _ => { a with phase := .reclaiming, flags := { a.flags with noReturn := true } }
  | .sending | .guard | .waiting _ | .reclaiming => a

/-- The talk limit expires: LISTENING to RECLAIM, a frame begun and not ended is discarded (R16, R102). -/
def State.talkExpired (s : State) : State :=
  match s.attempt with
  | some a => s.goReclaim.setAttempt (some a.cutOff)
  | none => s

/-- TALK_LIMIT_EXPIRY (R102). -/
def execTalkLimitExpiry (s : State) : Host.Outcome State Fault Refusal :=
  .next (s.whenFree fun s => s.atMoment (s.dueAt .talkLimit) State.talkExpired)

/-! ### The end of RECLAIM -/

/-- RECLAIM ends (R17, R103): the line is QUIET, and an attempt ends with its provisional outcome. An attempt in
RECLAIM always has one (log 22: NO_RESPONSE stands in where there is none). -/
def State.reclaimed (s : State) : State :=
  match s.attempt with
  | some a => s.goQuiet.endAttempt a (a.provisional.getD .noResponse)
  | none => s.goQuiet

/-- RECLAIM_END (R17, R103). -/
def execReclaimEnd (s : State) : Host.Outcome State Fault Refusal :=
  .next (s.whenFree fun s => s.atMoment (s.dueAt .reclaimEnd) State.reclaimed)

end Sys2Proof.Machine
end

