-- ==== Sys2Proof/Machine/LineRequests.lean ====
section
/-! DEFINITION. What the requests on the part, the line, the rounds and the Segment Table do: IDENTIFY, RESET DEVICE,
CONFIGURE LINE, READ LINE, CONFIGURE ROUND, READ ROUND, DEFINE, DELETE, UPDATE and READ SEGMENT, START, STOP
(R22, R25, R26, R29, R41 to R44, R47, R48, R170 to R174). -/

namespace Sys2Proof.Machine

/-- What a request's execution answers: its status, and the request-specific fields when it is OK (R168). -/
structure Answer where
  status : Status
  fields : Bytes
deriving DecidableEq, Repr

/-- OK with these fields. -/
def Answer.ok (fields : Bytes) : Answer := { status := .ok, fields := fields }

/-- A refusal: no fields (R159, R168). -/
def Answer.refusal (st : Status) : Answer := { status := st, fields := [] }

/-- A refused request changes nothing (R169). -/
def State.refuse (s : State) (st : Status) : State × Answer := (s, .refusal st)

/-- CONFIGURE LINE, CONFIGURE ROUND, DEFINE and DELETE SEGMENT are taken in STOPPED and HALTED only (section 10.4). -/
def EngineState.atRest : EngineState → Bool
  | .stopped | .halted => true
  | .settling | .running | .stopping => false

/-! ### The part -/

/-- IDENTIFY (R171, R180). -/
def answerIdentify (b : Bytes) (s : State) : State × Answer :=
  match decodeEmpty b with
  | .error e => s.refuse e
  | .ok () => (s, .ok
      (le2 Config.partCode ++ le1 Config.siliconRevision ++ leBool (s.port.mode == .uart) ++ leBool s.port.baudHigh
        ++ le1 Config.stationCount ++ le1 Config.channelCount ++ le1 Config.segmentRecords ++ le2 Config.segmentStore
        ++ le1 Config.transactionRecords ++ le1 Config.admissionLimit ++ le1 Config.inboundMessages
        ++ le2 Config.inboundBytes ++ le1 Config.reportCapacity ++ le1 Config.eventSources ++ le1 Config.replyQueue
        ++ le2 Config.largestBody))

/-- RESET DEVICE (R174): OK with no fields; the device reset follows its reply's last byte. -/
def answerResetDevice (b : Bytes) (s : State) : State × Answer :=
  match decodeEmpty b with
  | .error e => s.refuse e
  | .ok () => (s, .ok [])

/-! ### The line -/

/-- CONFIGURE LINE (R22). -/
def answerConfigureLine (b : Bytes) (s : State) : State × Answer :=
  match decodeConfigureLine b with
  | .error e => s.refuse e
  | .ok c =>
    if s.engine.state.atRest = true then (s.setLine { s.line with config := c }, .ok [])
    else s.refuse .wrongState

/-- READ LINE (R172, R180). -/
def answerReadLine (b : Bytes) (s : State) : State × Answer :=
  match decodeEmpty b with
  | .error e => s.refuse e
  | .ok () => (s, .ok (s.line.config.bytes ++ le1 s.line.activity.state.code ++ le2 s.line.contentions))

/-! ### The rounds -/

/-- CONFIGURE ROUND (R47). -/
def answerConfigureRound (b : Bytes) (s : State) : State × Answer :=
  match decodeConfigureRound b with
  | .error e => s.refuse e
  | .ok c =>
    if s.engine.state.atRest = true then (s.setEngine { s.engine with config := c }, .ok [])
    else s.refuse .wrongState

/-- READ ROUND (R48, R173, R180). -/
def answerReadRound (b : Bytes) (s : State) : State × Answer :=
  match decodeEmpty b with
  | .error e => s.refuse e
  | .ok () => (s, .ok
      (le1 s.engine.state.code ++ le4 s.engine.counter.toNat ++ s.engine.config.bytes
        ++ le4 (s.line.config.bitsToMicros (fixedPart s.line.config s.engine.config s.engine.table))
        ++ le2 (s.line.config.bitsToMicros (closingLength s.line.config s.engine.config s.engine.table))))

/-- START (R25, R26): the records that cannot fit complete UNPLACEABLE, the counter is cleared, the engine enters
SETTLING, the line QUIET, and the settle timer starts; its microseconds are counted on the ticks of the time base (log 16). -/
def State.beginRun (s : State) : State :=
  let s1 := s.completeAll (fun r => !s.canFit r) .unplaceable
  (s1.setEngine { s1.engine with
    state := .settling, counter := 0, prevStart := none, pendingStart := none, deadline := none,
    settleEnd := some (tickOf s.now + micros s.engine.config.settleTime), roundEnd := none, agenda := [] }).goQuiet

/-- START (R25, R26). -/
def answerStart (b : Bytes) (s : State) : State × Answer :=
  match decodeEmpty b with
  | .error e => s.refuse e
  | .ok () =>
    if s.engine.state ≠ .stopped then s.refuse .wrongState
    else if budgetHolds s.line.config s.engine.config s.engine.table = true then
      (s.beginRun, .ok (le1 (s.countMatching fun r => !s.canFit r)))
    else s.refuse .tableOverrun

/-- The end of the round that STOP fixes in RUNNING (R29). -/
def State.stoppingEnd (s : State) : Time :=
  match s.engine.config.mode, s.engine.prevStart with
  | .timed, some p => p + micros s.engine.config.period
  | .triggered, some p => max s.now (p + micros s.engine.config.minPeriod)
  | _, none => s.now

/-- A segment frame of the layout; the gap openings of a STOPPING round are not made (R29, R37). -/
def RoundItem.isSegment : RoundItem → Bool
  | .segment _ _ => true
  | .gap _ _ _ => false

/-- STOP taken in RUNNING (R29, R72, R87): STOPPING, or STOPPED at once when the round ends at this moment. The line
is QUIET at every such moment (R29, R75); a state no run reaches, in which it is not, waits in STOPPING for QUIET (log 17). -/
def State.stopRunning (s : State) : State :=
  let s1 := (s.setEngine { s.engine with
    state := .stopping, pendingStart := none, roundEnd := some s.stoppingEnd,
    agenda := s.engine.agenda.filter RoundItem.isSegment }).closeGap
  if s.stoppingEnd ≤ s.now ∧ s.isQuiet = true then s1.enterStopped else s1

/-- STOP (R29). -/
def State.stop (s : State) : State :=
  match s.engine.state with
  | .stopped => s
  | .settling => s.enterStopped
  | .running => s.stopRunning
  | .stopping => s
  | .halted => s.clearFault

/-- STOP (R29). -/
def answerStop (b : Bytes) (s : State) : State × Answer :=
  match decodeEmpty b with
  | .error e => s.refuse e
  | .ok () => (s.stop, .ok [])

/-! ### The Segment Table -/

/-- The payload bytes of the records, the store's use (R40). -/
def tableBytes (table : List Segment) : Nat := (table.map Segment.len).sum

/-- The record is placed in index order, replacing a record of the same index (R40, R41). -/
def insertSegment (g : Segment) : List Segment → List Segment
  | [] => [g]
  | h :: rest =>
    if g.index = h.index then g :: rest
    else if g.index < h.index then g :: h :: rest
    else h :: insertSegment g rest

/-- Replace the Segment Table. -/
def State.setTable (s : State) (t : List Segment) : State := s.setEngine { s.engine with table := t }

/-- DEFINE SEGMENT (R41). -/
def answerDefineSegment (b : Bytes) (s : State) : State × Answer :=
  match decodeDefineSegment b with
  | .error e => s.refuse e
  | .ok g =>
    if s.engine.state.atRest = false then s.refuse .wrongState
    else if Config.segmentStore < tableBytes (insertSegment g s.engine.table) then s.refuse .tableFull
    else (s.setTable (insertSegment g s.engine.table), .ok (leBool (s.engine.segment g.index).isSome))

/-- DELETE SEGMENT (R42). -/
def answerDeleteSegment (b : Bytes) (s : State) : State × Answer :=
  match decodeIndex 32 b with
  | .error e => s.refuse e
  | .ok k =>
    if s.engine.state.atRest = false then s.refuse .wrongState
    else if (s.engine.segment k).isNone = true then s.refuse .notFound
    else (s.setTable (s.engine.table.filter fun g => g.index != k), .ok [])

/-- A refreshed payload: active at once when the engine is at rest, and otherwise staged (R43). -/
def Segment.refreshed (g : Segment) (atRest : Bool) (p : Bytes) : Segment :=
  if atRest = true then { g with active := p, staged := none, age := 0 } else { g with staged := some p }

/-- UPDATE SEGMENT (R43). -/
def answerUpdateSegment (b : Bytes) (s : State) : State × Answer :=
  match decodeUpdateSegment b with
  | .error e => s.refuse e
  | .ok (k, p) =>
    match s.engine.segment k with
    | none => s.refuse .notFound
    | some g =>
      if p.length ≠ g.len then s.refuse .lengthMismatch
      else
        (s.setTable (s.engine.table.map fun x =>
            if x.index = k then x.refreshed s.engine.state.atRest p else x),
          .ok (leBool g.staged.isSome))

/-- READ SEGMENT (R44, R180). -/
def answerReadSegment (b : Bytes) (s : State) : State × Answer :=
  match decodeIndex 32 b with
  | .error e => s.refuse e
  | .ok k =>
    match s.engine.segment k with
    | none => s.refuse .notFound
    | some g => (s, .ok
        (le1 g.index.val ++ le1 g.destination.code ++ le1 g.channel.val ++ le2 g.len ++ le1 g.freshness ++ le1 g.age
          ++ le1 (bitWeight g.stale 0 + bitWeight g.staged.isSome 1) ++ g.active ++ g.staged.getD []))

end Sys2Proof.Machine
end

