-- ==== Sys2Proof/Machine/WorkRequests.lean ====
section
/-! DEFINITION. What the requests on stations, transactions and inbound messages do: CONFIGURE, ENABLE, DISABLE and READ
STATION (R125 to R128), SUBMIT, CANCEL and READ QUEUE (R53, R54, R61, R66, R67), CONFIGURE INBOUND and TAKE
MESSAGES (R136 to R138). -/

namespace Sys2Proof.Machine

/-! ### Stations -/

/-- A threshold of 0 in the request keeps the current value (R127). -/
def keptOr (requested current : Nat) : Nat := if requested = 0 then current else requested

/-- The station after an accepted CONFIGURE STATION (R127). -/
def Station.configured (st : Station) (v : StationSettings) : Station :=
  { st with rxMask := v.rxMask, msgLimit := v.msgLimit, probeInterval := v.probeInterval,
            pollInterval := v.pollInterval, suspectAfter := keptOr v.suspectAfter st.suspectAfter,
            lostAfter := keptOr v.lostAfter st.lostAfter }

/-- The thresholds that would result satisfy suspect_after + 1 ≤ lost_after (R127 check 2). -/
def Station.thresholdsAgree (st : Station) (v : StationSettings) : Bool :=
  decide (keptOr v.suspectAfter st.suspectAfter + 1 ≤ keptOr v.lostAfter st.lostAfter)

/-- CONFIGURE STATION (R127). -/
def answerConfigureStation (b : Bytes) (s : State) : State × Answer :=
  match decodeConfigureStation b with
  | .error e => s.refuse e
  | .ok v =>
    let st := s.station v.station
    if st.thresholdsAgree v = false then s.refuse .badValue
    else if (v.suspectAfter ≠ 0 ∨ v.lostAfter ≠ 0) ∧ st.state ≠ .disabled then s.refuse .wrongState
    else (s.setStation v.station (st.configured v), .ok [])

/-- The station after ENABLE STATION (R125). -/
def Station.enabled (st : Station) : Station :=
  if st.state = .disabled then { st with state := .offline, probeDue := true } else st

/-- ENABLE STATION (R125). -/
def answerEnableStation (b : Bytes) (s : State) : State × Answer :=
  match decodeIndex 8 b with
  | .error e => s.refuse e
  | .ok i => (s.setStation i (s.station i).enabled, .ok [])

/-- The station after DISABLE STATION (R126 step 3). -/
def Station.disabled (st : Station) : Station :=
  { st with state := .disabled, failures := 0, seqNext := false, probeDue := false }

/-- DISABLE STATION, its three steps in order (R126). -/
def State.disableStation (s : State) (i : StationId) : State :=
  let s1 := (s.completeAll (Record.names i) .stationDisabled).removeInternal (Record.names i)
  s1.setStation i (s1.station i).disabled

/-- DISABLE STATION (R126). -/
def answerDisableStation (b : Bytes) (s : State) : State × Answer :=
  match decodeIndex 8 b with
  | .error e => s.refuse e
  | .ok i => (s.disableStation i, .ok (le1 (s.countMatching (Record.names i))))

/-- An identity in the IDENT payload layout, bits 4 to 7 of the channel set byte 0; all zero when absent (R180, R182). -/
def identityBytes (i : Option Identity) : Bytes :=
  match i with
  | some i => le2 i.typeCode.toNat ++ [i.revision] ++ le1 i.channels.toNat ++ le2 i.maxLength ++ le2 i.serialLow.toNat
  | none => List.replicate 8 0

/-- The byte at offset 11 of READ STATION's reply (R180). -/
def stationFlags (st : Station) (internal : Option Record) : Nat :=
  bitWeight st.probeDue 0 + bitWeight st.identity.isSome 1 + bitWeight st.lastReport.isSome 2
  + bitWeight internal.isSome 3
  + (match internal with
      | some r => bitWeight (r.kind == .probe) 4 + bitWeight r.onLine 5
      | none => 0)

/-- The fields of READ STATION's reply from offset 2 on (R128, R180). -/
def State.stationFields (s : State) (i : StationId) : Bytes :=
  let st := s.station i
  le1 i.val ++ le1 st.state.code ++ le1 st.rxMask.toNat ++ le2 st.msgLimit ++ le1 st.suspectAfter ++ le1 st.lostAfter
  ++ le1 st.probeInterval ++ le1 st.pollInterval ++ le1 (stationFlags st (s.internalOf i)) ++ le2 st.limit
  ++ leBool st.seqNext ++ le1 st.failures ++ le4 st.lastProbeRound.toNat ++ le4 st.lastPollRound.toNat
  ++ identityBytes st.identity
  ++ le2 (match st.lastReport with | some (w, _) => w.toNat | none => 0)
  ++ le4 (match st.lastReport with | some (_, r) => r.toNat | none => 0)
  ++ le2 st.repliesGood ++ le2 st.failuresTotal ++ le2 st.messagesDiscarded
  ++ le1 (s.txns.countP fun r => r.isHost && r.names i)

/-- READ STATION (R128). -/
def answerReadStation (b : Bytes) (s : State) : State × Answer :=
  match decodeIndex 8 b with
  | .error e => s.refuse e
  | .ok i => (s, .ok (s.stationFields i))

/-! ### Transactions -/

/-- The record of a submission, unanchored (R54). -/
def Submission.record (v : Submission) : Record :=
  { id := v.id, kind := v.kind, target := v.target, channel := v.channel, length := v.length, payload := v.payload,
    placement := v.placement, delay := v.delay, lifetime := v.lifetime, retryBudget := v.retryBudget, anchor := none,
    due := false, attempts := 0, onLine := false, cancelRequested := false, last := none }

/-- Checks 6 and 7 of SUBMIT (R53): the station's state, and the channel in its identity's channel set. A SEND to
station 15 skips both. -/
def State.submitStationCheck (s : State) (v : Submission) : Option Status :=
  match v.target with
  | .broadcast => none
  | .station i =>
    if (s.station i).state = .disabled ∨ (s.station i).state = .offline then some .stationUnavailable
    else if ((s.station i).identity.any fun x => x.channels.getLsbD v.channel.val) = true then none
    else some .badChannel

/-- Checks 3 to 8 of SUBMIT in order (R53). -/
def State.submitCheck (s : State) (v : Submission) : Option Status :=
  if s.engine.state = .stopping then some .wrongState
  else if Config.admissionLimit ≤ s.admission then some .queueFull
  else if (s.txns.any fun r => r.id == v.id) = true then some .duplicateId
  else match s.submitStationCheck v with
    | some st => some st
    | none => if s.canFit v.record = true then none else some .neverFits

/-- The record as it joins the list: anchored at once in RUNNING (R51, R54). -/
def State.submitted (s : State) (v : Submission) : Record :=
  if s.engine.state = .running then v.record.anchored s.engine.counter else v.record

/-- The fields of SUBMIT's reply (R54, R180). -/
def submitFields (r : Record) : Bytes :=
  le2 r.id ++ le1 (bitWeight r.anchor.isSome 0 + bitWeight r.expiryRound.isSome 1)
  ++ le4 (match r.anchor with | some a => a.earliest.toNat | none => 0)
  ++ le4 (match r.expiryRound with | some e => e.toNat | none => 0)

/-- SUBMIT (R53, R54). -/
def answerSubmit (b : Bytes) (s : State) : State × Answer :=
  match decodeSubmit b with
  | .error e => s.refuse e
  | .ok v =>
    match s.submitCheck v with
    | some st => s.refuse st
    | none => (s.setTxns (s.txns ++ [s.submitted v]), .ok (submitFields (s.submitted v)))

/-- CANCEL of a PENDING record: it completes CANCELLED at once (R61, R68). -/
def State.cancelPending (s : State) (r : Record) : State :=
  (s.setTxns (dropRecord r.id s.txns)).queueReport (.completion (r.plainCompletion .cancelled s.engine.counter))

/-- CANCEL of the ON_LINE record: cancel_requested becomes yes (R61). -/
def State.requestCancel (s : State) (r : Record) : State :=
  s.setTxns (replaceRecord { r with cancelRequested := true } s.txns)

/-- CANCEL (R61). -/
def answerCancel (b : Bytes) (s : State) : State × Answer :=
  match decodeCancel b with
  | .error e => s.refuse e
  | .ok id =>
    match s.txns.find? fun r => r.id == id with
    | none => s.refuse .notFound
    | some r =>
      if r.onLine = true then (s.requestCancel r, .ok (le1 1)) else (s.cancelPending r, .ok (le1 0))

/-- The time left in the open gap is short of the record's reservation plus 20 bit times, or no gap its placement
names is open, or the engine is not RUNNING (R67, WAITING_GAP). -/
def State.waitsForGap (s : State) (r : Record) : Bool :=
  match s.sched.openGap with
  | none => true
  | some g =>
    s.engine.state != .running || !placementMatches s.engine.table r.placement g.kind
      || !decide (s.now + s.bits (s.reservation r + interFrameIdle) ≤ g.ends)

/-- The station of a host record is RESYNC (R67, WAITING_STATION). -/
def State.waitsForStation (s : State) (r : Record) : Bool :=
  match r.target with
  | .station i => r.isHost && (s.station i).state == .resync
  | .broadcast => false

/-- The waiting reason code of a PENDING record, `older` being the records before it: the first that applies (R67,
R180; WAITING_ORDER as R79 reads it). -/
def State.waitingReason (s : State) (older : List Record) (r : Record) : Nat :=
  if r.anchor.isNone = true then 1
  else if r.due = false then 2
  else if s.waitsForStation r = true then 3
  else if heldByOlder older r = true then 4
  else if s.heldForRoom r = true then 5
  else if s.waitsForGap r = true then 6
  else 7

/-- A READ QUEUE entry (R66, R180). -/
def State.queueEntry (s : State) (older : List Record) (r : Record) : Bytes :=
  le2 r.id ++ le1 r.kind.code ++ le1 r.target.code ++ le1 r.channel.val ++ leBool r.onLine ++ le1 r.attempts
  ++ leBool r.cancelRequested ++ le1 (if r.onLine = true then 0 else s.waitingReason older r)
  ++ le1 (match r.last with | some x => x.outcome.code | none => 0xFF)

/-- The entries of these records, `older` being the records before them. -/
def State.queueEntries (s : State) (older : List Record) : Nat → List Record → Bytes
  | 0, _ => []
  | _ + 1, [] => []
  | n + 1, r :: rest => s.queueEntry older r ++ s.queueEntries (older ++ [r]) n rest

/-- The id of the ON_LINE record, 0 when none (R180). -/
def State.onLineId (s : State) : Nat :=
  match s.inFlight with
  | some r => r.id
  | none => 0

/-- READ QUEUE (R66, R180). -/
def answerReadQueue (b : Bytes) (s : State) : State × Answer :=
  match decodeCount 48 b with
  | .error e => s.refuse e
  | .ok n => (s, .ok
      (le1 s.txns.length ++ le1 (s.txns.countP fun r => r.isHost) ++ le1 s.admission ++ le2 s.onLineId
        ++ le1 (min n s.txns.length) ++ s.queueEntries [] n s.txns))

/-! ### Inbound messages -/

/-- CONFIGURE INBOUND (R136). -/
def answerConfigureInbound (b : Bytes) (s : State) : State × Answer :=
  match decodeCount 16 b with
  | .error e => s.refuse e
  | .ok n =>
    (s.setInbound { s.inbound with threshold := n },
      .ok (le1 s.inbound.threshold ++ le1 s.inbound.messages.length ++ le2 s.inbound.bytesHeld))

/-- The number of messages a TAKE returns: oldest first, until the maximum or the reply space is reached (R137). -/
def takeCount : Nat → Nat → List Message → Nat
  | 0, _, _ => 0
  | _ + 1, _, [] => 0
  | n + 1, space, m :: rest =>
    if 8 + m.payload.length ≤ space then takeCount n (space - (8 + m.payload.length)) rest + 1 else 0

/-- A message record in the reply (R180). -/
def Message.bytes (m : Message) : Bytes :=
  le1 (m.station.val + 16 * m.channel.val) ++ le1 (bitWeight m.headerCorrected 0 + bitWeight m.headerSuspect 1)
  ++ le2 m.payload.length ++ le4 m.arrival.toNat ++ m.payload

/-- The reply bytes left for messages before the first is taken (R137). -/
def takeSpace : Nat := 1022

/-- TAKE MESSAGES (R137, R138). -/
def answerTakeMessages (b : Bytes) (s : State) : State × Answer :=
  match decodeCount 8 b with
  | .error e => s.refuse e
  | .ok n =>
    let k := takeCount n takeSpace s.inbound.messages
    let rest : Inbound := { s.inbound with messages := s.inbound.messages.drop k }
    (s.setInbound rest,
      .ok (le1 k ++ le1 rest.messages.length ++ le2 rest.bytesHeld
        ++ (s.inbound.messages.take k).flatMap Message.bytes))

end Sys2Proof.Machine
end

