-- ==== Sys2Proof/Machine/ReportRequests.lean ====
section
/-! DEFINITION. What the requests on reports and events do: FETCH REPORTS, ACK REPORTS, READ EVENTS, ACK EVENT and MASK
EVENTS (R145 to R147, R152 to R154, R179, R180). -/

namespace Sys2Proof.Machine

/-! ### Reports -/

/-- A completion in the reply, from offset 3 on (R179). -/
def Completion.bytes (c : Completion) : Bytes :=
  le2 c.id ++ le1 c.kind.code ++ le1 c.target.code ++ le1 c.channel.val ++ le1 c.outcome.code ++ le1 c.attempts
  ++ le4 c.round.toNat ++ le1 c.flags.byte ++ leBool c.word.isSome
  ++ le2 (match c.word with | some w => w.toNat | none => 0) ++ le2 c.data.length ++ c.data

/-- An event in the reply, from offset 3 on (R179). -/
def Event.bytes (e : Event) : Bytes :=
  le1 e.source.val ++ le1 e.count ++ le1 (detailForm e.source) ++ le2 (detailValue e.detail) ++ le4 e.round.toNat

/-- A report in the reply: sequence number, type, content (R179). -/
def Report.bytes (r : Report) : Bytes :=
  le2 r.seq.toNat ++
  match r.body with
  | .completion c => le1 1 ++ c.bytes
  | .event e => le1 2 ++ e.bytes

/-- The reply bytes a report takes: 12, or 20 plus its data (R145). -/
def Report.size (r : Report) : Nat :=
  match r.body with
  | .completion c => 20 + c.data.length
  | .event _ => 12

/-- The number of reports a FETCH returns: oldest first, until the maximum or the reply space is reached (R145). -/
def fetchCount : Nat → Nat → List Report → Nat
  | 0, _, _ => 0
  | _ + 1, _, [] => 0
  | n + 1, space, r :: rest => if r.size ≤ space then fetchCount n (space - r.size) rest + 1 else 0

/-- The reply bytes left for reports (R145). -/
def fetchSpace : Nat := 1024

/-- FETCH REPORTS (R145, R146). -/
def answerFetchReports (b : Bytes) (s : State) : State × Answer :=
  match decodeCount 16 b with
  | .error e => s.refuse e
  | .ok n =>
    let k := fetchCount n fetchSpace s.reports.queue
    (s, .ok (le1 k ++ le1 s.reports.queue.length ++ (s.reports.queue.take k).flatMap Report.bytes))

/-- The number of reports from the head up to and including the one of this number, if it is present (R147). -/
def ackCount (seq : BitVec 16) : List Report → Option Nat
  | [] => none
  | r :: rest => if r.seq = seq then some 1 else (ackCount seq rest).map (· + 1)

/-- ACK REPORTS (R147). -/
def answerAckReports (b : Bytes) (s : State) : State × Answer :=
  match decodeAckReports b with
  | .error e => s.refuse e
  | .ok seq =>
    match ackCount seq s.reports.queue with
    | none => s.refuse .notFound
    | some n =>
      (s.setReports { s.reports with queue := s.reports.queue.drop n },
        .ok (le1 n ++ le1 ((s.reports.queue.take n).countP fun r => r.isCompletion)
          ++ le1 (s.reports.queue.drop n).length))

/-! ### Events -/

/-- A READ EVENTS entry (R180). -/
def State.eventEntry (s : State) (src : SourceId) : Bytes :=
  let e := s.source src
  le1 (bitWeight e.latched 0 + bitWeight e.masked 1 + bitWeight (s.reportQueued src) 2 + bitWeight e.detail.isSome 3)
  ++ le1 e.count ++ le2 (detailValue e.detail) ++ le4 e.lastRound.toNat

/-- READ EVENTS (R154, R180). -/
def answerReadEvents (b : Bytes) (s : State) : State × Answer :=
  match decodeEmpty b with
  | .error e => s.refuse e
  | .ok () => (s, .ok
      (le1 s.reports.queue.length ++ le2 s.reports.nextSeq.toNat ++ (List.finRange 48).flatMap s.eventEntry))

/-- The source once released: detail, last_round and masked are kept (R152). -/
def Source.released (e : Source) : Source := { e with latched := false, count := 0 }

/-- The fields of ACK EVENT's reply: what was cleared (R152, R180). -/
def Source.ackFields (e : Source) : Bytes :=
  le1 (bitWeight e.latched 0 + bitWeight e.detail.isSome 1) ++ le1 e.count ++ le2 (detailValue e.detail)
  ++ le4 e.lastRound.toNat

/-- ACK EVENT (R152). -/
def answerAckEvent (b : Bytes) (s : State) : State × Answer :=
  match decodeIndex 48 b with
  | .error e => s.refuse e
  | .ok src =>
    if s.reportQueued src = true then s.refuse .reportUnread
    else (s.setSource src (s.source src).released, .ok (s.source src).ackFields)

/-- One pair of MASK EVENTS (R153): unmasking a latched source without a report queues its report. -/
def State.maskOne (s : State) (src : SourceId) (masked : Bool) : State :=
  let s' := s.setSource src { s.source src with masked := masked }
  if masked = false ∧ (s.source src).masked = true ∧ (s.source src).latched = true ∧ s.reportQueued src = false then
    s'.queueReport (s'.eventReport src)
  else s'

/-- The pairs in list order (R153). -/
def State.maskAll (s : State) : List (SourceId × Bool) → State
  | [] => s
  | (src, m) :: rest => (s.maskOne src m).maskAll rest

/-- MASK EVENTS (R153): the reply gives the number of reports queued. -/
def answerMaskEvents (b : Bytes) (s : State) : State × Answer :=
  match decodeMaskEvents b with
  | .error e => s.refuse e
  | .ok ps =>
    (s.maskAll ps, .ok (le1 ((s.maskAll ps).reports.queue.length - s.reports.queue.length)))

end Sys2Proof.Machine
end

