-- ==== Sys2Proof/Machine/HostPort.lean ====
section
/-! DEFINITION. The Host Port (chapter 9): reply output, the parser and its errors, dispatch and repeat detection, with
the meanings of PARSER_BYTE_TAKEN, CHECK, OVERSIZE, TIMEOUT, CS_RISE, REPLY_LEAVES_QUEUE and the four fates of a good
frame that is no plain execution. -/

namespace Sys2Proof.Machine

/-! ### Replies -/

/-- The reply is that of an accepted RESET DEVICE, whose last byte brings the device reset (R167, R174). -/
def Reply.bringsReset (r : Reply) : Bool := r.kind == Request.resetDevice.code + 0x80 && r.status == .ok

/-- A RESET DEVICE reply is pending (R167). -/
def State.resetPending (s : State) : Bool := s.port.replies.any Reply.bringsReset

/-- A reply joins the tail of the reply queue; in an empty queue it becomes the head now (R162, R163, R165). -/
def HostPort.append (p : HostPort) (now : Time) (r : Reply) : HostPort :=
  { p with replies := p.replies ++ [r], headSince := if p.replies.isEmpty = true then now else p.headSince }

/-- The hold that follows a RESET DEVICE reply lasts 10 microseconds (R175). R175 does not say how an end of the reply between
two ticks of the time base falls: the model counts from that end itself (DESIGN CHOICE, log 32). -/
def deviceHold : Time := micros 10

/-- The device reset of RESET DEVICE, with its hold, which is counted from the present moment, on a tick or not (R174, R175,
log 32). -/
def State.resetByRequest (s : State) : State :=
  s.deviceReset.setHold { s.hold with holdEnd := some (s.now + deviceHold) }

/-- The head reply's last byte has been sent: it leaves, and the next reply begins (R163, R164, R165); after a RESET
DEVICE reply the device reset follows (R167). -/
def State.replyLeaves (s : State) : State :=
  match s.port.replies with
  | [] => s
  | r :: rest =>
    if r.bringsReset = true then s.resetByRequest
    else s.setPort { s.port with replies := rest, outPos := 0, headSince := s.now }

/-- At a byte boundary in SPI mode a head reply already out in full has left (R164, log 7). -/
def State.passHead (s : State) : State := if s.port.headComplete = true then s.replyLeaves else s

/-! ### Parser errors -/

/-- A frame is discarded with an error (R161, R162 step 1): the parser hunts again and FRAME_ERROR occurs, except
while a RESET DEVICE reply is pending (R167). -/
def State.frameError (s : State) (e : FrameError) : State :=
  let s' := s.setPort { s.port with parser := .hunting }
  if s.resetPending = true then s' else s'.occur srcFrameError (.frameError e)

/-! ### Dispatch -/

/-- The block that owns the request's subject checks it, does its work or refuses, and answers (R162 step 4). -/
def Request.answer (q : Request) (b : Bytes) (s : State) : State × Answer :=
  match q with
  | .identify => answerIdentify b s
  | .resetDevice => answerResetDevice b s
  | .configureLine => answerConfigureLine b s
  | .readLine => answerReadLine b s
  | .configureRound => answerConfigureRound b s
  | .readRound => answerReadRound b s
  | .defineSegment => answerDefineSegment b s
  | .deleteSegment => answerDeleteSegment b s
  | .updateSegment => answerUpdateSegment b s
  | .readSegment => answerReadSegment b s
  | .start => answerStart b s
  | .stop => answerStop b s
  | .configureStation => answerConfigureStation b s
  | .enableStation => answerEnableStation b s
  | .disableStation => answerDisableStation b s
  | .readStation => answerReadStation b s
  | .submit => answerSubmit b s
  | .cancel => answerCancel b s
  | .readQueue => answerReadQueue b s
  | .configureInbound => answerConfigureInbound b s
  | .takeMessages => answerTakeMessages b s
  | .fetchReports => answerFetchReports b s
  | .ackReports => answerAckReports b s
  | .readEvents => answerReadEvents b s
  | .ackEvent => answerAckEvent b s
  | .maskEvents => answerMaskEvents b s

/-- The reply to a request: its tag, its kind + 0x80, the answer, the REPEAT flag clear (R159, R168). -/
def Answer.reply (a : Answer) (tag kind : Byte) : Reply :=
  { tag := tag, kind := kind + 0x80, status := a.status, repeated := false, fields := a.fields }

/-- The execution of a request of this kind byte; an unknown kind is executed as a refusal (R162 steps 3 and 4). -/
def State.executeRequest (s : State) (kind : Byte) (b : Bytes) : State × Answer :=
  match Request.ofCode kind with
  | none => (s, .refusal .unknownRequest)
  | some q => q.answer b s

/-- An executed request's reply is appended and replaces the repeat record (R162, R166). -/
def State.replyAndRemember (s : State) (check : BitVec 16) (r : Reply) : State :=
  s.setPort { s.port.append s.now r with repeatRecord := some { tag := r.tag, check := check, reply := r } }

/-- The execution of a good request under R162 steps 3 and 4. -/
def State.execute (s : State) (tag kind : Byte) (b : Bytes) : State :=
  let r := s.executeRequest kind b
  r.1.replyAndRemember (frameCheck tag kind b) (r.2.reply tag kind)

/-- The stored reply, when the frame matches the repeat record in tag and check value (R162 step 2, R166). -/
def State.repeatOf (s : State) (tag kind : Byte) (b : Bytes) : Option Reply :=
  match s.port.repeatRecord with
  | some m => if m.tag = tag ∧ m.check = frameCheck tag kind b then some m.reply else none
  | none => none

/-- Dispatch of a good request (R162): its steps in order, the first that applies deciding. While a RESET DEVICE reply
is pending the request is discarded without a trace (R167). -/
def State.dispatch (s : State) (tag kind : Byte) (b : Bytes) : State :=
  if s.resetPending = true then s
  else if Config.replyQueue ≤ s.port.replies.length then s.frameError .backlog
  else match s.repeatOf tag kind b with
    | some r => s.setPort (s.port.append s.now { r with repeated := true })
    | none => s.execute tag kind b

/-- A host byte has been received now; in SPI mode a transfer is in progress (R157, R161). -/
def State.byteSeen (s : State) : State :=
  s.setPort { s.port with lastByteAt := s.now, csLow := s.port.mode == .spi }

/-- A frame is complete: the parser hunts again, whatever follows (R160). -/
def State.frameComplete (s : State) : State := s.byteSeen.setPort { s.byteSeen.port with parser := .hunting }

/-- A good frame of these bytes is completed and dispatched (R160, R162, log 5); a part held in reset ignores it (R175). -/
def State.goodFrame (s : State) (tag kind : Byte) (b : Bytes) : State :=
  s.whenFree fun s => s.frameComplete.dispatch tag kind b

/-- A complete frame is judged by its check (R160). -/
def State.judgeHostFrame (s : State) (tag kind : Byte) (b : Bytes) (chk : BitVec 16) : State :=
  if chk = frameCheck tag kind b then s.frameComplete.dispatch tag kind b
  else s.frameComplete.frameError .check

/-- CHECK (R160, R161). -/
def execCheck (tag kind : Byte) (body : Bytes) (chk : BitVec 16) (s : State) : Host.Outcome State Fault Refusal :=
  .next (s.whenFree fun s => s.judgeHostFrame tag kind body chk)

/-- The second length byte completes a length (R160, R161). -/
def State.lengthTaken (s : State) (len : Nat) : State :=
  if 2 ≤ len ∧ len ≤ 1030 then s.setPort { s.port with parser := .content len [] }
  else s.frameError .oversize

/-- OVERSIZE (R160, R161). -/
def execOversize (len : BitVec 16) (s : State) : Host.Outcome State Fault Refusal :=
  .next (s.whenFree fun s => s.byteSeen.lengthTaken len.toNat)

/-- TIMEOUT (R161). -/
def execTimeout (s : State) : Host.Outcome State Fault Refusal :=
  .next (s.whenFree fun s => s.atMoment (s.dueAt .timeout) fun s => s.frameError .timeout)

/-! ### The parser -/

/-- The content of a frame is complete or not (R160). -/
def contentTaken (len : Nat) (got : Bytes) : Parser :=
  if len ≤ got.length then .check got none else .content len got

/-- The second check byte completes the frame (R160). Content has at least a tag and a kind, as length is 2 or more. -/
def State.secondCheckByte (s : State) (content : Bytes) (chk : BitVec 16) : State :=
  match content with
  | tag :: kind :: body => s.judgeHostFrame tag kind body chk
  | _ => s.frameComplete.frameError .check

/-- The parser takes one byte (R160). -/
def State.parseByte (s : State) (b : Byte) : State :=
  match s.port.parser with
  | .hunting => if b = 0xA5 then s.setPort { s.port with parser := .length none } else s
  | .length none => s.setPort { s.port with parser := .length (some b) }
  | .length (some low) => s.lengthTaken (low.toNat + 256 * b.toNat)
  | .content len got => s.setPort { s.port with parser := contentTaken len (got ++ [b]) }
  | .check content none => s.setPort { s.port with parser := .check content (some b) }
  | .check content (some low) => s.secondCheckByte content (b ++ low)

/-- In SPI mode a byte clocked in clocks one out (R157, R164): a head reply already out in full has left, and the head
reply's next byte follows; with an empty queue 0xFF goes out. -/
def State.clockOut (s : State) : State :=
  if s.passHead.port.replies = [] then s.passHead
  else s.passHead.setPort { s.passHead.port with outPos := s.passHead.port.outPos + 1 }

/-- A host byte arrives: in SPI mode one byte goes out at the same time (R157); a reply that had gone out in full may
bring a device reset, and then the byte is ignored (R175). -/
def State.hostByte (s : State) (b : Byte) : State :=
  let s' := match s.port.mode with
    | .spi => s.clockOut
    | .uart => s
  s'.whenFree fun s => s.byteSeen.parseByte b

/-- PARSER_BYTE_TAKEN (R157, R160). -/
def execParserByteTaken (byte : Byte) (s : State) : Host.Outcome State Fault Refusal :=
  .next (s.whenFree fun s => s.hostByte byte)

/-- The host clocks `n` bytes of fill, each of which the parser takes (R157, R160). -/
def State.clockFill : Nat → State → State
  | 0, s => s
  | n + 1, s => (s.hostByte 0xFF).clockFill n

/-- REPLY_LEAVES_QUEUE (R163): in UART mode at the moment the transmitter's schedule fixes (R165); in SPI mode when the
host has clocked the rest of the head reply out with fill (R164, log 7). -/
def execReplyLeavesQueue (s : State) : Host.Outcome State Fault Refusal :=
  .next (s.whenFree fun s =>
    match s.port.mode with
    | .uart => s.atMoment (s.dueAt .replyLeaves) State.replyLeaves
    | .spi =>
      match s.port.replies with
      | [] => s
      | r :: _ => (s.clockFill (r.size - s.port.outPos)).passHead)

/-- CS rises: a reply part-way out starts again, and a frame in progress is CUT (R161, R164). -/
def State.csRise (s : State) : State :=
  let s' := s.passHead.setPort { s.passHead.port with csLow := false, outPos := 0 }
  if s'.port.parser = .hunting then s' else s'.frameError .cut

/-- CS_RISE (R161, R164); CS is unused in UART mode (R156). -/
def execCsRise (s : State) : Host.Outcome State Fault Refusal :=
  .next (s.whenFree fun s =>
    match s.port.mode with
    | .spi => s.csRise
    | .uart => s)

/-! ### The host pins -/

/-- SDO in the byte time of a transfer that begins now, `csLow` being the level of CS that the host gives: the head reply's
byte at the output position, a reply already out in full having left, or 0xFF; not driven while CS is high, in UART mode, or
while the part is held in reset (R157, R164, R175). -/
def State.sdoByte (s : State) (csLow : Bool) : Option Byte :=
  if csLow = true ∧ s.port.mode = .spi ∧ s.held = false ∧ s.passHead.held = false then
    match s.passHead.port.replies with
    | [] => some 0xFF
    | r :: _ => some ((replyFrame r).getD s.passHead.port.outPos 0xFF)
  else none

/-- The level of TXD `n` bit periods after the head reply's first start bit began, true for high: bytes back to back, each
a start bit, the data bits least significant first, and a stop bit (R158). -/
def txdLevel (r : Reply) (n : Nat) : Bool :=
  match (replyFrame r)[n / 10]? with
  | some b => (dataByteTime b).getLsbD (n % 10)
  | none => true

/-- TXD, true for high: high with no reply to send and while the part is held in reset; none in SPI mode, where the pin is
SDO (R156, R158, R165, R167, R175). -/
def State.txd (s : State) : Option Bool :=
  if s.held = true then some true
  else match s.port.mode with
    | .spi => none
    | .uart =>
      match s.port.replies with
      | [] => some true
      | r :: _ => some (txdLevel r (s.port.txPeriods (s.now - s.port.headSince)))

/-- The byte that ten levels sampled on RXD hand to the parser: its data bits, whatever the stop bit reads (R158). -/
def uartReceived (levels : ByteTime) : Byte := levels.extractLsb' 1 8

/-- The bits of a byte in the order in which SPI shifts them: most significant first (R157). -/
def spiBits (b : Byte) : List Bool := (List.range 8).map fun i => b.getLsbD (7 - i)

/-- The byte that the bits clocked in a byte time make: none when fewer than eight were clocked (R157, Partial byte). -/
def spiReceived (bits : List Bool) : Option Byte :=
  if bits.length = 8 then some (BitVec.ofNat 8 (bits.foldl (fun n b => 2 * n + b.toNat) 0)) else none

/-! ### The other fates of a good frame (log 6) -/

/-- UNKNOWN_REQUEST (R162 step 3). -/
def execUnknownRequest (tag kind : Byte) (body : Bytes) (s : State) : Host.Outcome State Fault Refusal :=
  .next (s.goodFrame tag kind body)

/-- REPEAT (R162 step 2, R166). -/
def execRepeatRequest (tag kind : Byte) (body : Bytes) (s : State) : Host.Outcome State Fault Refusal :=
  .next (s.goodFrame tag kind body)

/-- BACKLOG (R162 step 1). -/
def execBacklog (tag kind : Byte) (body : Bytes) (s : State) : Host.Outcome State Fault Refusal :=
  .next (s.goodFrame tag kind body)

/-- REQUEST_DISCARDED_BEFORE_RESET (R167). -/
def execRequestDiscardedBeforeReset (tag kind : Byte) (body : Bytes) (s : State) : Host.Outcome State Fault Refusal :=
  .next (s.goodFrame tag kind body)

end Sys2Proof.Machine
end

