-- ==== Sys2Proof/Machine/Requests.lean ====
section
/-! DEFINITION. The meanings of the 26 requests as commands: each is a good frame of its kind, completed and dispatched
(R160, R162); what its execution does stands in LineRequests, WorkRequests and ReportRequests. -/

namespace Sys2Proof.Machine

/-- A good frame of a request's kind (R162, R176). -/
def State.request (s : State) (q : Request) (tag : Byte) (body : Bytes) : State := s.goodFrame tag q.code body

/-- IDENTIFY (R171). -/
def execIdentify (tag : Byte) (body : Bytes) (s : State) : Host.Outcome State Fault Refusal :=
  .next (s.request .identify tag body)

/-- RESET DEVICE (R174). -/
def execResetDevice (tag : Byte) (body : Bytes) (s : State) : Host.Outcome State Fault Refusal :=
  .next (s.request .resetDevice tag body)

/-- CONFIGURE LINE (R22). -/
def execConfigureLine (tag : Byte) (body : Bytes) (s : State) : Host.Outcome State Fault Refusal :=
  .next (s.request .configureLine tag body)

/-- READ LINE (R172). -/
def execReadLine (tag : Byte) (body : Bytes) (s : State) : Host.Outcome State Fault Refusal :=
  .next (s.request .readLine tag body)

/-- CONFIGURE ROUND (R47). -/
def execConfigureRound (tag : Byte) (body : Bytes) (s : State) : Host.Outcome State Fault Refusal :=
  .next (s.request .configureRound tag body)

/-- READ ROUND (R173). -/
def execReadRound (tag : Byte) (body : Bytes) (s : State) : Host.Outcome State Fault Refusal :=
  .next (s.request .readRound tag body)

/-- DEFINE SEGMENT (R41). -/
def execDefineSegment (tag : Byte) (body : Bytes) (s : State) : Host.Outcome State Fault Refusal :=
  .next (s.request .defineSegment tag body)

/-- DELETE SEGMENT (R42). -/
def execDeleteSegment (tag : Byte) (body : Bytes) (s : State) : Host.Outcome State Fault Refusal :=
  .next (s.request .deleteSegment tag body)

/-- UPDATE SEGMENT (R43). -/
def execUpdateSegment (tag : Byte) (body : Bytes) (s : State) : Host.Outcome State Fault Refusal :=
  .next (s.request .updateSegment tag body)

/-- READ SEGMENT (R44). -/
def execReadSegment (tag : Byte) (body : Bytes) (s : State) : Host.Outcome State Fault Refusal :=
  .next (s.request .readSegment tag body)

/-- START (R25, R26). -/
def execStart (tag : Byte) (body : Bytes) (s : State) : Host.Outcome State Fault Refusal :=
  .next (s.request .start tag body)

/-- STOP (R29). -/
def execStop (tag : Byte) (body : Bytes) (s : State) : Host.Outcome State Fault Refusal :=
  .next (s.request .stop tag body)

/-- CONFIGURE STATION (R127). -/
def execConfigureStation (tag : Byte) (body : Bytes) (s : State) : Host.Outcome State Fault Refusal :=
  .next (s.request .configureStation tag body)

/-- ENABLE STATION (R125). -/
def execEnableStation (tag : Byte) (body : Bytes) (s : State) : Host.Outcome State Fault Refusal :=
  .next (s.request .enableStation tag body)

/-- DISABLE STATION (R126). -/
def execDisableStation (tag : Byte) (body : Bytes) (s : State) : Host.Outcome State Fault Refusal :=
  .next (s.request .disableStation tag body)

/-- READ STATION (R128). -/
def execReadStation (tag : Byte) (body : Bytes) (s : State) : Host.Outcome State Fault Refusal :=
  .next (s.request .readStation tag body)

/-- SUBMIT (R53, R54). -/
def execSubmit (tag : Byte) (body : Bytes) (s : State) : Host.Outcome State Fault Refusal :=
  .next (s.request .submit tag body)

/-- CANCEL (R61). -/
def execCancel (tag : Byte) (body : Bytes) (s : State) : Host.Outcome State Fault Refusal :=
  .next (s.request .cancel tag body)

/-- READ QUEUE (R66). -/
def execReadQueue (tag : Byte) (body : Bytes) (s : State) : Host.Outcome State Fault Refusal :=
  .next (s.request .readQueue tag body)

/-- CONFIGURE INBOUND (R136). -/
def execConfigureInbound (tag : Byte) (body : Bytes) (s : State) : Host.Outcome State Fault Refusal :=
  .next (s.request .configureInbound tag body)

/-- TAKE MESSAGES (R137). -/
def execTakeMessages (tag : Byte) (body : Bytes) (s : State) : Host.Outcome State Fault Refusal :=
  .next (s.request .takeMessages tag body)

/-- FETCH REPORTS (R145). -/
def execFetchReports (tag : Byte) (body : Bytes) (s : State) : Host.Outcome State Fault Refusal :=
  .next (s.request .fetchReports tag body)

/-- ACK REPORTS (R147). -/
def execAckReports (tag : Byte) (body : Bytes) (s : State) : Host.Outcome State Fault Refusal :=
  .next (s.request .ackReports tag body)

/-- READ EVENTS (R154). -/
def execReadEvents (tag : Byte) (body : Bytes) (s : State) : Host.Outcome State Fault Refusal :=
  .next (s.request .readEvents tag body)

/-- ACK EVENT (R152). -/
def execAckEvent (tag : Byte) (body : Bytes) (s : State) : Host.Outcome State Fault Refusal :=
  .next (s.request .ackEvent tag body)

/-- MASK EVENTS (R153). -/
def execMaskEvents (tag : Byte) (body : Bytes) (s : State) : Host.Outcome State Fault Refusal :=
  .next (s.request .maskEvents tag body)

end Sys2Proof.Machine
end

