-- ==== Sys2Proof/Machine/Resets.lean ====
section
/-! DEFINITION. The reset commands: RESET_PIN_LOW, POWER_ON and RESET_RELEASE (R156, R175). -/

namespace Sys2Proof.Machine

/-- RESET_PIN_LOW (R174, R175): a device reset at once, and the part is held while the pin is low. -/
def execResetPinLow (s : State) : Host.Outcome State Fault Refusal :=
  .next (s.deviceReset.setHold { s.hold with pinLow := true })

/-- POWER_ON (R175): the part is held in reset until the supply and CLK25 are present; no hold of RESET DEVICE
outlives the loss of power (log 14). -/
def execPowerOn (s : State) : Host.Outcome State Fault Refusal :=
  .next (s.deviceReset.setHold { s.hold with powerAbsent := true, holdEnd := none })

/-- The hold once one of its causes has ended. -/
def Hold.without (h : Hold) (c : ReleaseCause) : Hold :=
  match c with
  | .pinHigh => { h with pinLow := false }
  | .powerGood => { h with powerAbsent := false }
  | .holdEnd => { h with holdEnd := none }

/-- The cause is one of those that hold the part. -/
def Hold.has (h : Hold) (c : ReleaseCause) : Bool :=
  match c with
  | .pinHigh => h.pinLow
  | .powerGood => h.powerAbsent
  | .holdEnd => h.holdEnd.isSome

/-- The straps sampled: MODE low is SPI, high UART (R156). -/
def modeOf (modeHigh : Bool) : PortMode := if modeHigh = true then .uart else .spi

/-- One cause of the hold ends (R175): with none left the straps are sampled and every block starts from its reset
state. -/
def State.endCause (s : State) (c : ReleaseCause) (modeHigh baudHigh : Bool) : State :=
  let h := s.hold.without c
  if h.held = true then s.setHold h
  else (s.deviceReset.setHold h).setPort { HostPort.reset with mode := modeOf modeHigh, baudHigh := baudHigh }

/-- RESET_RELEASE (R156, R175): the end of the 10 microsecond hold falls at its moment; a cause that does not hold
the part releases nothing (log 14). -/
def execResetRelease (cause : ReleaseCause) (modeHigh baudHigh : Bool) (s : State) : Host.Outcome State Fault Refusal :=
  .next (
    if s.hold.has cause = false then s
    else match cause with
      | .pinHigh => s.endCause .pinHigh modeHigh baudHigh
      | .powerGood => s.endCause .powerGood modeHigh baudHigh
      | .holdEnd => s.atMoment (s.dueAt .holdEnd) fun s => s.endCause .holdEnd modeHigh baudHigh)

end Sys2Proof.Machine
end

