-- ==== Sys2Proof/Machine/Dispatch.lean ====
section
/-! DEFINITION. One arm per command: the meaning it calls. -/

namespace Sys2Proof.Machine

/-- The effect of a command on everything but the queue of commands. -/
def exec (i : Instr) (s : State) : Host.Outcome State Fault Refusal :=
  match i with
  | .identify tag body => Sys2Proof.Machine.execIdentify tag body s
  | .resetDevice tag body => Sys2Proof.Machine.execResetDevice tag body s
  | .configureLine tag body => Sys2Proof.Machine.execConfigureLine tag body s
  | .readLine tag body => Sys2Proof.Machine.execReadLine tag body s
  | .configureRound tag body => Sys2Proof.Machine.execConfigureRound tag body s
  | .readRound tag body => Sys2Proof.Machine.execReadRound tag body s
  | .defineSegment tag body => Sys2Proof.Machine.execDefineSegment tag body s
  | .deleteSegment tag body => Sys2Proof.Machine.execDeleteSegment tag body s
  | .updateSegment tag body => Sys2Proof.Machine.execUpdateSegment tag body s
  | .readSegment tag body => Sys2Proof.Machine.execReadSegment tag body s
  | .start tag body => Sys2Proof.Machine.execStart tag body s
  | .stop tag body => Sys2Proof.Machine.execStop tag body s
  | .configureStation tag body => Sys2Proof.Machine.execConfigureStation tag body s
  | .enableStation tag body => Sys2Proof.Machine.execEnableStation tag body s
  | .disableStation tag body => Sys2Proof.Machine.execDisableStation tag body s
  | .readStation tag body => Sys2Proof.Machine.execReadStation tag body s
  | .submit tag body => Sys2Proof.Machine.execSubmit tag body s
  | .cancel tag body => Sys2Proof.Machine.execCancel tag body s
  | .readQueue tag body => Sys2Proof.Machine.execReadQueue tag body s
  | .configureInbound tag body => Sys2Proof.Machine.execConfigureInbound tag body s
  | .takeMessages tag body => Sys2Proof.Machine.execTakeMessages tag body s
  | .fetchReports tag body => Sys2Proof.Machine.execFetchReports tag body s
  | .ackReports tag body => Sys2Proof.Machine.execAckReports tag body s
  | .readEvents tag body => Sys2Proof.Machine.execReadEvents tag body s
  | .ackEvent tag body => Sys2Proof.Machine.execAckEvent tag body s
  | .maskEvents tag body => Sys2Proof.Machine.execMaskEvents tag body s
  | .unknownRequest tag kind body => Sys2Proof.Machine.execUnknownRequest tag kind body s
  | .repeatRequest tag kind body => Sys2Proof.Machine.execRepeatRequest tag kind body s
  | .backlog tag kind body => Sys2Proof.Machine.execBacklog tag kind body s
  | .requestDiscardedBeforeReset tag kind body => Sys2Proof.Machine.execRequestDiscardedBeforeReset tag kind body s
  | .check tag kind body chk => Sys2Proof.Machine.execCheck tag kind body chk s
  | .oversize len => Sys2Proof.Machine.execOversize len s
  | .timeout => Sys2Proof.Machine.execTimeout s
  | .csRise => Sys2Proof.Machine.execCsRise s
  | .replyLeavesQueue => Sys2Proof.Machine.execReplyLeavesQueue s
  | .resetPinLow => Sys2Proof.Machine.execResetPinLow s
  | .powerOn => Sys2Proof.Machine.execPowerOn s
  | .resetRelease cause modeHigh baudHigh => Sys2Proof.Machine.execResetRelease cause modeHigh baudHigh s
  | .settleTimerExpiry => Sys2Proof.Machine.execSettleTimerExpiry s
  | .trigEdge => Sys2Proof.Machine.execTrigEdge s
  | .roundStart => Sys2Proof.Machine.execRoundStart s
  | .segmentFrame => Sys2Proof.Machine.execSegmentFrame s
  | .gapOpening => Sys2Proof.Machine.execGapOpening s
  | .gapEnd => Sys2Proof.Machine.execGapEnd s
  | .roundEndStopping => Sys2Proof.Machine.execRoundEndStopping s
  | .frameSent => Sys2Proof.Machine.execFrameSent s
  | .contention bit high => Sys2Proof.Machine.execContention s bit high
  | .guardEnd => Sys2Proof.Machine.execGuardEnd s
  | .stationStart low => Sys2Proof.Machine.execStationStart s low
  | .responseTimerExpiry => Sys2Proof.Machine.execResponseTimerExpiry s
  | .decodedFrame byteTimes => Sys2Proof.Machine.execDecodedFrame byteTimes s
  | .talkLimitExpiry => Sys2Proof.Machine.execTalkLimitExpiry s
  | .reclaimEnd => Sys2Proof.Machine.execReclaimEnd s
  | .lineFault levels => Sys2Proof.Machine.execLineFault s levels
  | .parserByteTaken byte => Sys2Proof.Machine.execParserByteTaken byte s

end Sys2Proof.Machine
end

