-- ==== Sys2Proof/Machine/Idle.lean ====
section
/-! DEFINITION. What the part does on its own when no command waits (log 2, log 3): the timed event whose moment has
come, or one unit of time passes. -/

namespace Sys2Proof.Machine

/-- The command of a timed event. At the end of a RESET DEVICE hold the straps read as they last did (log 14). -/
def State.commandOf (s : State) : Timed → Instr
  | .frameSent => .frameSent
  | .reclaimEnd => .reclaimEnd
  | .guardEnd => .guardEnd
  | .talkLimit => .talkLimitExpiry
  | .responseTimer => .responseTimerExpiry
  | .gapEnd => .gapEnd
  | .segmentFrame => .segmentFrame
  | .settleTimer => .settleTimerExpiry
  | .roundEnd => .roundEndStopping
  | .roundStart => .roundStart
  | .gapOpening => .gapOpening
  | .replyLeaves => .replyLeavesQueue
  | .timeout => .timeout
  | .holdEnd => .resetRelease .holdEnd (s.port.mode == .uart) s.port.baudHigh

/-- The step on an empty queue (DESIGN CHOICE, log 2, log 3). -/
def State.idle (s : State) : Host.Outcome State Fault Refusal :=
  match s.dueNow with
  | some e => exec (s.commandOf e) s
  | none => .next (s.setNow (s.now + 1))

end Sys2Proof.Machine
end

