-- ==== Sys2Proof/Machine/Step.lean ====
section
/-! DEFINITION. One step of the machine: the command at the front of the queue; on an empty queue the part's own next
event, or the passing of one unit of time (log 2, log 3). -/

namespace Sys2Proof.Machine

/-- One step: the front command runs on the state with the queue's rest. On an empty queue the part acts on its own
(`idle`). -/
def step (s : State) : Host.Outcome State Fault Refusal :=
  match s.pending with
  | [] => s.idle
  | c :: rest => exec c (s.setPending rest)

/-- The command a word of the table's bits spells, put at the front of the queue. The rows give no bits, so no word
spells a command and the state is unchanged. -/
def State.withFetchWord (s : State) (nbits w : Nat) : State :=
  match decodeTableWord nbits w with
  | some c => s.setPending (c :: s.pending)
  | none => s

end Sys2Proof.Machine
end

