-- ==== Sys2Proof/WellFormed.lean ====
section
/-! DEFINITION. When a command's operands are of its own kind: a body the host frame can carry (R159), a kind byte no
request has, a check that does not match, a length out of range, byte times that end one frame. -/

namespace Sys2Proof

open Sys2Proof.Machine

/-- A body fits a host frame (R159). -/
def bodyFits (body : Bytes) : Bool := decide (body.length ≤ Config.largestBody)

/-- A length outside 2 to 1030 (R161, OVERSIZE). -/
def lengthOversize (len : BitVec 16) : Bool := decide (len.toNat < 2 ∨ 1030 < len.toNat)

/-- The byte times are data bytes and then the one that ends the frame, and nothing after it (R11). -/
def endsOneFrame (ts : List ByteTime) : Bool :=
  decide ((collectBytes ts).2 ≠ .unfinished ∧ ts.length = (collectBytes ts).1.length + 1)

/-- The command is well formed. -/
def Instr.wf : Instr → Bool
  | .identify _ body => bodyFits body
  | .resetDevice _ body => bodyFits body
  | .configureLine _ body => bodyFits body
  | .readLine _ body => bodyFits body
  | .configureRound _ body => bodyFits body
  | .readRound _ body => bodyFits body
  | .defineSegment _ body => bodyFits body
  | .deleteSegment _ body => bodyFits body
  | .updateSegment _ body => bodyFits body
  | .readSegment _ body => bodyFits body
  | .start _ body => bodyFits body
  | .stop _ body => bodyFits body
  | .configureStation _ body => bodyFits body
  | .enableStation _ body => bodyFits body
  | .disableStation _ body => bodyFits body
  | .readStation _ body => bodyFits body
  | .submit _ body => bodyFits body
  | .cancel _ body => bodyFits body
  | .readQueue _ body => bodyFits body
  | .configureInbound _ body => bodyFits body
  | .takeMessages _ body => bodyFits body
  | .fetchReports _ body => bodyFits body
  | .ackReports _ body => bodyFits body
  | .readEvents _ body => bodyFits body
  | .ackEvent _ body => bodyFits body
  | .maskEvents _ body => bodyFits body
  | .unknownRequest _ kind body => bodyFits body && (Request.ofCode kind).isNone
  | .repeatRequest _ _ body => bodyFits body
  | .backlog _ _ body => bodyFits body
  | .requestDiscardedBeforeReset _ _ body => bodyFits body
  | .check tag kind body chk => bodyFits body && chk != frameCheck tag kind body
  | .oversize len => lengthOversize len
  | .timeout => true
  | .csRise => true
  | .replyLeavesQueue => true
  | .resetPinLow => true
  | .powerOn => true
  | .resetRelease _ _ _ => true
  | .settleTimerExpiry => true
  | .trigEdge => true
  | .roundStart => true
  | .segmentFrame => true
  | .gapOpening => true
  | .gapEnd => true
  | .roundEndStopping => true
  | .frameSent => true
  | .contention _ _ => true
  | .guardEnd => true
  | .stationStart _ => true
  | .responseTimerExpiry => true
  | .decodedFrame ts => endsOneFrame ts
  | .talkLimitExpiry => true
  | .reclaimEnd => true
  | .lineFault levels => !levels.isEmpty
  | .parserByteTaken _ => true

end Sys2Proof
end

