-- ==== Sys2Proof/Safety.lean ====
section
/-! DEFINITION. The terms claims are stated in: when a request is executed and what the Host Port then holds; the reply
queue, the events and reports, the stations, the Segment Table, the Transaction List, the Inbound Queue, and the line
with the engine and the turn as the rules bound them in every state of a run. -/

namespace Sys2Proof.Machine

/-! ### Commands of the 26 requests -/

/-- The command of a request. -/
def Request.command (q : Request) (tag : Byte) (body : Bytes) : Instr :=
  match q with
  | .identify => .identify tag body
  | .resetDevice => .resetDevice tag body
  | .configureLine => .configureLine tag body
  | .readLine => .readLine tag body
  | .configureRound => .configureRound tag body
  | .readRound => .readRound tag body
  | .defineSegment => .defineSegment tag body
  | .deleteSegment => .deleteSegment tag body
  | .updateSegment => .updateSegment tag body
  | .readSegment => .readSegment tag body
  | .start => .start tag body
  | .stop => .stop tag body
  | .configureStation => .configureStation tag body
  | .enableStation => .enableStation tag body
  | .disableStation => .disableStation tag body
  | .readStation => .readStation tag body
  | .submit => .submit tag body
  | .cancel => .cancel tag body
  | .readQueue => .readQueue tag body
  | .configureInbound => .configureInbound tag body
  | .takeMessages => .takeMessages tag body
  | .fetchReports => .fetchReports tag body
  | .ackReports => .ackReports tag body
  | .readEvents => .readEvents tag body
  | .ackEvent => .ackEvent tag body
  | .maskEvents => .maskEvents tag body

/-- The read requests (R170). -/
def Request.reads : Request → Bool
  | .identify | .readLine | .readRound | .readSegment | .readStation | .readQueue | .readEvents | .fetchReports => true
  | .resetDevice | .configureLine | .configureRound | .defineSegment | .deleteSegment | .updateSegment | .start | .stop
  | .configureStation | .enableStation | .disableStation | .submit | .cancel | .configureInbound | .takeMessages
  | .ackReports | .ackEvent | .maskEvents => false

/-! ### A good frame at the Host Port -/

/-- A good frame of these bytes is executed when it is complete: the part is not held in reset, no RESET DEVICE reply
is pending, the reply queue has a place and the frame is no repeat (R162, R167, R175). -/
def State.takes (s : State) (tag kind : Byte) (body : Bytes) : Prop :=
  s.held = false ∧ s.resetPending = false ∧ s.port.replies.length < 4 ∧ s.repeatOf tag kind body = none

/-- The Host Port when a frame has just been completed at the moment `now` (R160). -/
def HostPort.received (p : HostPort) (now : Time) : HostPort :=
  { p with parser := .hunting, lastByteAt := now, csLow := p.mode == .spi }

/-- The reply to an executed request: its tag, its kind + 0x80, the REPEAT flag clear (R159, R168). -/
def firstReply (tag kind : Byte) (st : Status) (fields : Bytes) : Reply :=
  { tag := tag, kind := kind + 0x80, status := st, repeated := false, fields := fields }

/-- The Host Port when a request has been executed and answered: the reply at the tail of the reply queue, and the
repeat record replaced (R162, R166). -/
def HostPort.answering (p : HostPort) (now : Time) (tag kind : Byte) (body : Bytes) (st : Status) (fields : Bytes) :
    HostPort :=
  { p.received now with
    replies := p.replies ++ [firstReply tag kind st fields]
    headSince := if p.replies = [] then now else p.headSince
    repeatRecord := some { tag := tag, check := frameCheck tag kind body, reply := firstReply tag kind st fields } }

/-- The state `u` of the other blocks, with the Host Port of `s` once it has answered this request. -/
def State.answered (s u : State) (q : Request) (tag : Byte) (body : Bytes) (st : Status) (fields : Bytes) : State :=
  u.setPort (s.port.answering s.now tag q.code body st fields)

/-- The part has refused this request: nothing but the Host Port has changed (R169). -/
def State.refused (s : State) (q : Request) (tag : Byte) (body : Bytes) (st : Status) : State :=
  s.answered s q tag body st []

/-- Everything but the Host Port is equal in two states. -/
def State.sameButPort (s t : State) : Prop := t = s.setPort t.port

/-! ### Time -/

/-- The moment `d` has come, or comes with no event of the part's own before it (log 4). -/
def State.comes (s : State) (d : Time) : Prop := d ≤ s.now ∨ s.nothingBefore d = true

/-- The state once the moment `d` has come. -/
def State.upTo (s : State) (d : Time) : State := s.setNow (max s.now d)

/-! ### Reset and runs of commands -/

/-- Every block is in its reset state; the time base, the commands waiting, what holds the part and the straps are what
they are (R175). -/
def State.inReset (s : State) : Prop :=
  s = { State.reset with
          now := s.now
          pending := s.pending
          hold := s.hold
          port := { HostPort.reset with mode := s.port.mode, baudHigh := s.port.baudHigh } }

/-- These commands, one after the other. -/
def execAll : List Instr → State → Host.Outcome State Fault Refusal
  | [], s => .next s
  | c :: cs, s =>
    match exec c s with
    | .next t => execAll cs t
    | .fault r => .fault r
    | .refused r => .refused r

/-- The Host Port after a byte that ends no frame: when it came, and a transfer in SPI mode (R157, R161). -/
def HostPort.seen (p : HostPort) (now : Time) : HostPort := { p with lastByteAt := now, csLow := p.mode == .spi }

/-! ### The reply queue -/

/-- The reply queue holds at most 4 replies (R163). -/
def State.portSafe (s : State) : Prop := s.port.replies.length ≤ 4

/-! ### Settings -/

/-- The settings lie in their ranges (R20, R22, R47, R135). -/
def State.configSafe (s : State) : Prop :=
  s.line.config.inRange = true ∧ s.engine.config.inRange = true ∧ s.line.contentions ≤ 65535
  ∧ 1 ≤ s.inbound.threshold ∧ s.inbound.threshold ≤ 16

/-! ### Events and reports -/

/-- A source's count is 0 to 255, and at least 1 exactly while it is latched (R149). -/
def Source.safe (e : Source) : Prop := e.count ≤ 255 ∧ (e.latched = true ↔ 1 ≤ e.count)

/-- These reports carry consecutive numbers from `n` on (R142). -/
def numberedFrom (n : BitVec 16) : List Report → Prop
  | [] => True
  | r :: rest => r.seq = n ∧ numberedFrom (n + 1) rest

/-- The bounds of R142, R143 and R149: the sources, one EVENT report per source, reports only of latched sources,
consecutive numbers up to the next one. -/
def State.eventsSafe (s : State) : Prop :=
  (∀ src, (s.source src).safe)
  ∧ (∀ src, s.reportQueued src = true → (s.source src).latched = true)
  ∧ (∀ src, s.reports.queue.countP (fun r => r.isEventOf src) ≤ 1)
  ∧ numberedFrom (s.reports.nextSeq - BitVec.ofNat 16 s.reports.queue.length) s.reports.queue

/-! ### Stations -/

/-- The failure count is in the bounds of the station's state (R116). -/
def Station.failuresBounded (st : Station) : Prop :=
  match st.state with
  | .online => st.failures < st.suspectAfter
  | .suspect => st.suspectAfter ≤ st.failures ∧ st.failures < st.lostAfter
  | .resync => st.failures < st.lostAfter
  | .offline => st.failures = 0
  | .disabled => st.failures = 0

/-- The station joined by an identity (R53 check 7). -/
def Station.joined (st : Station) : Bool :=
  st.state == .online || st.state == .suspect || st.state == .resync

/-- The bounds on a station record (R112, R116, R122, R130). -/
def Station.safe (st : Station) : Prop :=
  st.failuresBounded
  ∧ 1 ≤ st.suspectAfter ∧ st.suspectAfter ≤ 15 ∧ st.suspectAfter + 1 ≤ st.lostAfter ∧ st.lostAfter ≤ 31
  ∧ 1 ≤ st.msgLimit ∧ st.msgLimit ≤ 256 ∧ 1 ≤ st.probeInterval ∧ st.probeInterval ≤ 255 ∧ st.pollInterval ≤ 255
  ∧ st.repliesGood ≤ 65535 ∧ st.failuresTotal ≤ 65535 ∧ st.messagesDiscarded ≤ 65535
  ∧ (∀ i ∈ st.identity, 1 ≤ i.maxLength ∧ i.maxLength ≤ 256)
  ∧ (st.joined = true → st.identity.isSome = true)

/-- Every station record is in its bounds. -/
def State.stationsSafe (s : State) : Prop := ∀ i, (s.station i).safe

/-! ### The Segment Table -/

/-- The bounds on a segment record (R40). -/
def Segment.safe (g : Segment) : Prop :=
  1 ≤ g.len ∧ g.len ≤ 256 ∧ (∀ p ∈ g.staged, p.length = g.len) ∧ g.freshness ≤ 255 ∧ g.age ≤ 255

/-- The Segment Table is in index order, one record an index, its records in their bounds and its payloads in the
store (R40). -/
def tableSafe (table : List Segment) : Prop :=
  table.Pairwise (fun a b => a.index < b.index) ∧ (∀ g ∈ table, g.safe) ∧ tableBytes table ≤ Config.segmentStore

/-! ### The line, the engine and the turn -/

/-- The phase of an attempt of kind `k` goes with the line state (R92). -/
def phaseMatches (k : TxnKind) : Phase → LineActivity → Prop
  | .sending, .sending f => f.kind = k.frameKind
  | .guard, .offered _ => True
  | .waiting _, .offered _ => True
  | .receiving _, .listening _ => True
  | .trailer _, .listening _ => True
  | .ignoring _, .listening _ => True
  | .reclaiming, .reclaim _ => True
  | _, _ => False

/-- Without an attempt the line is OFF or QUIET, or carries a round frame or reclaims after one (R92, IDLE). -/
def idleMatches : LineActivity → Prop
  | .off => True
  | .quiet _ => True
  | .sending f => f.isTransaction = false
  | .offered _ => False
  | .listening _ => False
  | .reclaim _ => True

/-- The line is OFF exactly in STOPPED and HALTED, QUIET in SETTLING; an attempt and an open gap come about in a round
only, and the attempt's phase goes with the line state (R24, R72, R92). -/
def State.lineSafe (s : State) : Prop :=
  (s.line.activity = .off ↔ s.engine.state.atRest = true)
  ∧ (s.engine.state = .settling → s.isQuiet = true)
  ∧ (s.sched.openGap.isSome = true → s.engine.state = .running)
  ∧ (match s.attempt with
      | some a => phaseMatches a.kind a.phase s.line.activity
      | none => idleMatches s.line.activity)

/-! ### The Transaction List -/

/-- A record's fields are those of its kind: host ids and internal ids in their ranges, internal ids by kind and
station, attempts within the budget, cancel_requested only while ON_LINE (R49, R50, R56). -/
def Record.safe (r : Record) : Prop :=
  r.attempts ≤ r.retryBudget ∧ r.retryBudget ≤ 7 ∧ (r.cancelRequested = true → r.onLine = true)
  ∧ (match r.kind with
      | .poll => ∃ i : StationId, r.target = .station i ∧ r.id = 0xF000 + i.val
      | .probe => ∃ i : StationId, r.target = .station i ∧ r.id = 0xF100 + i.val
      | .write | .read => r.target ≠ .broadcast ∧ 1 ≤ r.id ∧ r.id ≤ 0xEFFF
      | .send => 1 ≤ r.id ∧ r.id ≤ 0xEFFF)

/-- The attempt is that of this record (R57, R92). -/
def Attempt.isOf (a : Attempt) (r : Record) : Prop :=
  a.kind = r.kind ∧ a.target = r.target ∧ a.channel = r.channel ∧ a.length = r.length ∧ a.payload = r.payload

/-- A PENDING record's station is in a state in which such a record can wait (R65, R90). -/
def Record.stationAllows (r : Record) (st : StationState) : Prop :=
  match r.kind with
  | .poll => st = .online ∨ st = .suspect
  | .probe => st = .offline ∨ st = .resync
  | .write | .read | .send => st = .online ∨ st = .suspect ∨ st = .resync

/-- No two records have one id, no station has two internal records, the admission count is at most 40, and the
ON_LINE record is the one whose attempt is on the line (R49, R50, R55, R57, R90). -/
def State.listSafe (s : State) : Prop :=
  (s.txns.map Record.id).Nodup
  ∧ (∀ r ∈ s.txns, r.safe)
  ∧ (∀ i : StationId, s.txns.countP (fun r => !r.isHost && r.names i) ≤ 1)
  ∧ s.admission ≤ Config.admissionLimit
  ∧ (match s.attempt with
      | some a => ∃ r ∈ s.txns, r.onLine = true ∧ a.isOf r ∧ ∀ x ∈ s.txns, x.onLine = true → x.id = r.id
      | none => ∀ x ∈ s.txns, x.onLine = false)

/-- PENDING records and the states of their stations agree (R65, R90). -/
def State.waitingSafe (s : State) : Prop :=
  ∀ r ∈ s.txns, r.onLine = false → ∀ i, r.target = .station i → r.stationAllows (s.station i).state

/-! ### The Inbound Queue -/

/-- A POLL on the line has room for the longest message it may bring, and a first frame that makes it good is no
longer (R81, R99, R132). -/
def Attempt.roomKept (a : Attempt) (q : Inbound) : Prop :=
  a.kind = .poll → q.room a.msgLimit = true ∧
    ∀ j ∈ a.first, (a.provisional = some .done ∨ a.provisional = some .doneNoted) →
      j.frame.header.kind = FrameKind.message.code → 1 ≤ j.frame.payload.length ∧ j.frame.payload.length ≤ a.msgLimit

/-- The Inbound Queue holds at most 16 messages and 2048 bytes, and keeps the room of a POLL on the line (R81, R131). -/
def State.inboundSafe (s : State) : Prop :=
  s.inbound.messages.length ≤ Config.inboundMessages
  ∧ s.inbound.bytesHeld ≤ Config.inboundBytes
  ∧ (∀ m ∈ s.inbound.messages, 1 ≤ m.payload.length)
  ∧ (∀ a ∈ s.attempt, a.roomKept s.inbound)

end Sys2Proof.Machine
end

