-- ==== Sys2Proof/Certificates/Slice0/Obligations.lean ====
section
/-! DEFINITION. The statements for the provers. -/

open Sys2Proof Sys2Proof.Machine

/-! ### Steps -/

/-- A step takes the command at the front of the queue and runs it on the state with the queue's rest. On an empty queue
the part takes its own event whose moment has come, or one unit of time passes (the model's choice, log 2 and log 3). -/
def Obligations.StepRunsTheFrontCommand : Prop :=
  (∀ (c : Instr) (rest : List Instr) (s : State), s.pending = c :: rest → step s = exec c (s.setPending rest))
  ∧ (∀ s : State, s.pending = [] →
       (s.dueNow = none → step s = .next (s.setNow (s.now + 1)))
       ∧ (∀ e, s.dueNow = some e → step s = exec (s.commandOf e) s))

/-- Every step of the table is whole and ends in a next state: no command stops the part, and none touches the queue of
commands, the model's own field (log 5). -/
def Obligations.EveryCommandEndsInANextState : Prop :=
  ∀ (c : Instr) (s : State), ∃ t, exec c s = .next t ∧ t.pending = s.pending

/-! ### Resets -/

/-- The state after a device reset, block by block, at the values the rules give. -/
def Obligations.ResetState : Prop :=
  State.reset.port.parser = .hunting ∧ State.reset.port.replies = [] ∧ State.reset.port.repeatRecord = none
  ∧ State.reset.line.activity = .off ∧ State.reset.line.contentions = 0
  ∧ State.reset.line.config
      = { rate := 4, turnGuard := 32, contentionPolicy := .yield, headerPolicy := .strict, crcCheck := true,
          writeTimeout := 50, readTimeout := 100, pollTimeout := 50, probeTimeout := 200, stuckTime := 256 }
  ∧ State.reset.engine.state = .stopped ∧ State.reset.engine.counter = 0 ∧ State.reset.engine.table = []
  ∧ State.reset.engine.prevStart = none ∧ State.reset.engine.pendingStart = none ∧ State.reset.engine.deadline = none
  ∧ State.reset.engine.config
      = { mode := .timed, period := 1000, triggerDelay := 0, minPeriod := 1000, maxPeriod := 65535,
          settleTime := 200, segmentGap := 0, minClosing := 50 }
  ∧ State.reset.txns = [] ∧ State.reset.inFlight = none
  ∧ State.reset.sched = { openGap := none, pollsHeld := false } ∧ State.reset.attempt = none
  ∧ (∀ i, State.reset.station i
      = { state := .disabled, rxMask := 0xF, msgLimit := 256, suspectAfter := 3, lostAfter := 8, probeInterval := 16,
          pollInterval := 0, probeDue := false, identity := none, seqNext := false, failures := 0,
          lastProbeRound := 0, lastPollRound := 0, lastReport := none, repliesGood := 0, failuresTotal := 0,
          messagesDiscarded := 0 })
  ∧ State.reset.inbound = { messages := [], threshold := 1 }
  ∧ State.reset.reports = { queue := [], nextSeq := 1 } ∧ State.reset.attnLow = false
  ∧ (∀ src, State.reset.source src
      = { latched := false, count := 0, detail := none, lastRound := 0, masked := false })

/-- RESET_PIN_LOW and POWER_ON put every block into its reset state at once and hold the part: LINE_DE released, ATTN
high, SDO not driven, TXD high. While it is held, host bytes, TRIG edges, line levels and everything else but the reset commands
change nothing. RESET_RELEASE: when the last cause that holds the part ends, the straps are sampled and every block starts
from its reset state; while another cause is left the part stays held. That the causes stand side by side and that POWER_ON
ends a 10 microsecond hold is the model's choice (log 14). -/
def Obligations.ResetCommands : Prop :=
  (∀ s : State,
     (∃ t, exec .resetPinLow s = .next t ∧ t.inReset ∧ t.now = s.now ∧ t.pending = s.pending
       ∧ t.hold = { s.hold with pinLow := true }
       ∧ t.lineDriverOn = false ∧ t.attnLow = false ∧ (∀ cs, t.sdoByte cs = none) ∧ t.txd = some true)
     ∧ (∃ t, exec .powerOn s = .next t ∧ t.inReset ∧ t.now = s.now ∧ t.pending = s.pending
       ∧ t.hold = { s.hold with powerAbsent := true, holdEnd := none }
       ∧ t.lineDriverOn = false ∧ t.attnLow = false ∧ (∀ cs, t.sdoByte cs = none) ∧ t.txd = some true))
  ∧ (∀ (s : State) (modeHigh baudHigh : Bool),
       (s.hold = ⟨true, false, none⟩ →
         ∃ t, exec (.resetRelease .pinHigh modeHigh baudHigh) s = .next t ∧ t.inReset ∧ t.held = false
           ∧ t.port.mode = (if modeHigh = true then .uart else .spi) ∧ t.port.baudHigh = baudHigh
           ∧ t.now = s.now ∧ t.pending = s.pending)
       ∧ (s.hold = ⟨false, true, none⟩ →
         ∃ t, exec (.resetRelease .powerGood modeHigh baudHigh) s = .next t ∧ t.inReset ∧ t.held = false
           ∧ t.port.mode = (if modeHigh = true then .uart else .spi) ∧ t.port.baudHigh = baudHigh
           ∧ t.now = s.now ∧ t.pending = s.pending)
       ∧ (∀ e, s.hold = ⟨false, false, some e⟩ → s.comes e →
         ∃ t, exec (.resetRelease .holdEnd modeHigh baudHigh) s = .next t ∧ t.inReset ∧ t.held = false
           ∧ t.port.mode = (if modeHigh = true then .uart else .spi) ∧ t.port.baudHigh = baudHigh
           ∧ t.now = max s.now e ∧ t.pending = s.pending)
       ∧ (s.hold.pinLow = true → (s.hold.powerAbsent = true ∨ s.hold.holdEnd.isSome = true) →
         exec (.resetRelease .pinHigh modeHigh baudHigh) s = .next (s.setHold { s.hold with pinLow := false }))
       ∧ (s.hold.powerAbsent = true → (s.hold.pinLow = true ∨ s.hold.holdEnd.isSome = true) →
         exec (.resetRelease .powerGood modeHigh baudHigh) s = .next (s.setHold { s.hold with powerAbsent := false })))
  ∧ (∀ (c : Instr) (s : State), s.held = true → c ≠ .resetPinLow → c ≠ .powerOn → (∀ k m b, c ≠ .resetRelease k m b) →
       exec c s = .next s)

/-- RESET DEVICE: the reply is queued and the part runs on; when that reply's last byte has been sent, every block
enters its reset state and the part is held for 10 microseconds. That these are counted from the end of the reply itself, where
it lies between two ticks, is the model's choice (log 32). -/
def Obligations.ResetDeviceWaitsForItsReply : Prop :=
  (∀ (s : State) (tag : Byte) (body : Bytes), s.takes tag 0x02 body →
    (body = [] → ∃ t, exec (.resetDevice tag body) s = .next t ∧ t = s.answered s .resetDevice tag body .ok []
      ∧ t.resetPending = true)
    ∧ (body ≠ [] → exec (.resetDevice tag body) s = .next (s.refused .resetDevice tag body .badLength)))
  ∧ (∀ (s : State) (r : Reply) (rest : List Reply), s.held = false → s.port.replies = r :: rest →
    r.kind = 0x82 → r.status = .ok →
    (s.port.mode = .uart → s.comes (s.port.headSince + s.port.txDuration r) →
      ∃ t, exec .replyLeavesQueue s = .next t ∧ t.inReset ∧ t.pending = s.pending
        ∧ t.now = max s.now (s.port.headSince + s.port.txDuration r)
        ∧ t.hold = { s.hold with holdEnd := some (t.now + micros 10) })
    ∧ (s.port.mode = .spi →
      ∃ t, exec .replyLeavesQueue s = .next t ∧ t.inReset ∧ t.pending = s.pending ∧ t.now = s.now
        ∧ t.hold = { s.hold with holdEnd := some (t.now + micros 10) }))

/-! ### The Host Port -/

/-- A good frame of one of the 26 kinds, taken while the reply queue has a place and which is no repeat, is handed to
its block; the block's answer is appended to the reply queue and replaces the repeat record. -/
def Obligations.RequestIsExecutedAndAnswered : Prop :=
  ∀ (q : Request) (tag : Byte) (body : Bytes) (s : State), s.takes tag q.code body →
    exec (q.command tag body) s
      = .next (s.answered (q.answer body s).1 q tag body (q.answer body s).2.status (q.answer body s).2.fields)
    ∧ (q.answer body s).1.port = s.port

/-- UNKNOWN_REQUEST: a kind byte that names no request is executed as a refusal with that status. REPEAT: a frame that
matches the repeat record in tag and check is not executed; the stored reply is appended again with its REPEAT flag set and
the record stays. BACKLOG: with 4 replies queued a good request is discarded with the BACKLOG occurrence.
REQUEST_DISCARDED_BEFORE_RESET: while a RESET DEVICE reply is pending it is discarded without any. A request's own command
comes to the same in each of these cases. -/
def Obligations.FatesOfAGoodFrame : Prop :=
  (∀ (tag kind : Byte) (body : Bytes) (s : State), (∀ q : Request, q.code ≠ kind) → s.takes tag kind body →
     exec (.unknownRequest tag kind body) s
       = .next (s.setPort (s.port.answering s.now tag kind body .unknownRequest [])))
  ∧ (∀ (tag kind : Byte) (body : Bytes) (s : State) (m : RepeatRecord),
       s.held = false → s.resetPending = false → s.port.replies.length < 4 → s.port.repeatRecord = some m →
       m.tag = tag → m.check = frameCheck tag kind body →
       exec (.repeatRequest tag kind body) s
         = .next (s.setPort { s.port.received s.now with
             replies := s.port.replies ++ [{ m.reply with repeated := true }]
             headSince := if s.port.replies = [] then s.now else s.port.headSince })
       ∧ (∀ q : Request, q.code = kind →
           exec (q.command tag body) s = exec (.repeatRequest tag kind body) s))
  ∧ (∀ (tag kind : Byte) (body : Bytes) (s : State), s.held = false →
       (s.resetPending = false → 4 ≤ s.port.replies.length →
         exec (.backlog tag kind body) s
           = .next ((s.setPort (s.port.received s.now)).occur srcFrameError (.frameError .backlog))
         ∧ (∀ q : Request, q.code = kind → exec (q.command tag body) s = exec (.backlog tag kind body) s))
       ∧ (s.resetPending = true →
         exec (.requestDiscardedBeforeReset tag kind body) s = .next (s.setPort (s.port.received s.now))
         ∧ (∀ q : Request, q.code = kind →
             exec (q.command tag body) s = exec (.requestDiscardedBeforeReset tag kind body) s)))

/-- CHECK, OVERSIZE, TIMEOUT and CS_RISE inside a frame: the frame is discarded, the parser hunts again, FRAME_ERROR
occurs with the error's name, and nothing else changes; while a RESET DEVICE reply is pending there is no occurrence either.
Outside a frame TIMEOUT is no error. The 2000 microseconds are counted from the last byte's own moment (log 28). -/
def Obligations.ParserErrorsDiscardTheFrame : Prop :=
  ∀ (s : State) (failed : State → FrameError → State), s.held = false →
    (∀ u e, failed u e = if s.resetPending = true then u else u.occur srcFrameError (.frameError e)) →
    (∀ (tag kind : Byte) (body : Bytes) (chk : BitVec 16), chk ≠ frameCheck tag kind body →
      exec (.check tag kind body chk) s = .next (failed (s.setPort (s.port.received s.now)) .check))
    ∧ (∀ len : BitVec 16, len.toNat < 2 ∨ 1030 < len.toNat →
      exec (.oversize len) s = .next (failed (s.setPort (s.port.received s.now)) .oversize))
    ∧ (s.port.mode = .uart → s.port.parser ≠ .hunting → s.comes (s.port.lastByteAt + micros 2000) →
      exec .timeout s
        = .next (failed ((s.upTo (s.port.lastByteAt + micros 2000)).setPort { s.port with parser := .hunting })
            .timeout))
    ∧ (s.port.parser = .hunting → exec .timeout s = .next s)
    ∧ (s.port.mode = .spi → s.port.parser ≠ .hunting → s.port.headComplete = false →
      exec .csRise s
        = .next (failed (s.setPort { s.port with csLow := false, outPos := 0, parser := .hunting }) .cut))

/-- REPLY_LEAVES_QUEUE and CS_RISE outside a frame: the reply whose last byte has been sent leaves from the head and the
next begins; a rise of CS sends a reply that was part-way out again from its start. In SPI mode the command stands for
the host clocking the rest of the reply out with fill, byte by byte, and a head reply that had gone out in full leaves before
the next byte of a transfer (log 7); when it is the reply of RESET DEVICE the device reset comes first and the byte is
ignored. What goes out: the bytes of a reply's envelope in order, on SDO byte by byte and 0xFF with no reply, with no fill
between two replies; on TXD each byte with its start bit, least significant bit first, and its stop bit, and high otherwise. -/
def Obligations.RepliesLeaveFromTheHead : Prop :=
  (∀ s : State, s.held = false →
     (∀ r rest, s.port.replies = r :: rest → r.bringsReset = false →
       (s.port.mode = .uart → s.comes (s.port.headSince + s.port.txDuration r) →
         exec .replyLeavesQueue s
           = .next ((s.upTo (s.port.headSince + s.port.txDuration r)).setPort
               { s.port with replies := rest, outPos := 0
                             headSince := max s.now (s.port.headSince + s.port.txDuration r) }))
       ∧ (s.port.mode = .spi → r.size ≤ s.port.outPos →
         exec .replyLeavesQueue s
           = .next (s.setPort { s.port with replies := rest, outPos := 0, headSince := s.now }))
       ∧ (s.port.mode = .spi → s.port.outPos < r.size → s.port.parser = .hunting →
         exec .replyLeavesQueue s
           = .next (s.setPort { s.port.seen s.now with replies := rest, outPos := 0, headSince := s.now }))
       ∧ (s.port.mode = .spi → s.port.outPos < r.size →
         ∃ t, exec (.parserByteTaken 0xFF) s = .next t ∧ exec .replyLeavesQueue s = exec .replyLeavesQueue t)
       ∧ (s.port.mode = .spi → s.port.parser = .hunting → r.size ≤ s.port.outPos →
         exec .csRise s
           = .next (s.setPort { s.port with csLow := false, replies := rest, outPos := 0, headSince := s.now })))
     ∧ (s.port.mode = .spi → s.port.parser = .hunting → s.port.headComplete = false →
         exec .csRise s = .next (s.setPort { s.port with csLow := false, outPos := 0 }))
     ∧ (s.port.mode = .uart → exec .csRise s = .next s))
  ∧ (∀ (s : State) (b : Byte) (r : Reply) (rest : List Reply), s.held = false → s.port.mode = .spi →
       s.port.replies = r :: rest → r.size ≤ s.port.outPos →
       (r.bringsReset = false →
         exec (.parserByteTaken b) s
           = exec (.parserByteTaken b) (s.setPort { s.port with replies := rest, outPos := 0, headSince := s.now }))
       ∧ (r.bringsReset = true →
         ∃ t, exec (.parserByteTaken b) s = .next t ∧ t.inReset ∧ t.held = true))
  ∧ (∀ (s : State) (wire : Reply → Bytes), s.held = false →
       (∀ r, wire r = 0xA5 :: (le2 (4 + r.fields.length)
           ++ [r.tag, r.kind, BitVec.ofNat 8 r.status.code, if r.repeated = true then 1 else 0] ++ r.fields
           ++ le2 (crc16 (le2 (4 + r.fields.length)
             ++ [r.tag, r.kind, BitVec.ofNat 8 r.status.code, if r.repeated = true then 1 else 0]
             ++ r.fields)).toNat)) →
       (∀ r, (wire r).length = r.size)
       ∧ s.sdoByte false = none
       ∧ (s.port.mode = .spi → s.port.replies = [] → s.sdoByte true = some 0xFF)
       ∧ (∀ r rest, s.port.mode = .spi → s.port.replies = r :: rest →
         (s.port.outPos < r.size → s.sdoByte true = (wire r)[s.port.outPos]?)
         ∧ (r.size ≤ s.port.outPos → s.sdoByte true =
             if r.bringsReset = true then none else if rest = [] then some 0xFF else some 0xA5))
       ∧ (s.port.mode = .uart → s.port.replies = [] → s.txd = some true)
       ∧ (∀ r rest n, s.port.mode = .uart → s.port.replies = r :: rest →
         n = (if s.port.baudHigh = true then (s.now - s.port.headSince) / 32
              else (s.now - s.port.headSince) * 9 / 2500) →
         s.txd = some (match (wire r)[n / 10]? with
           | none => true
           | some b => if n % 10 = 0 then false else if n % 10 = 9 then true else b.getLsbD (n % 10 - 1))))

/-- PARSER_BYTE_TAKEN: the parser takes one byte by the table of its phases; in SPI mode a byte of the head reply goes
out at the same time, and a reply already out in full has left before. The byte is that of the bits sampled on RXD, whatever
the stop bit, or of the eight bits clocked in on SDI, most significant first; fewer than eight make none. -/
def Obligations.ParserTakesOneByte : Prop :=
  (∀ b : Byte, (∀ stop : Bool, uartReceived (BitVec.ofBool stop ++ b ++ 0#1) = b)
    ∧ (∀ i, i < 8 → (spiBits b)[i]? = some (b.getLsbD (7 - i))) ∧ spiReceived (spiBits b) = some b)
  ∧ (∀ bits : List Bool, bits.length < 8 → spiReceived bits = none)
  ∧ ∀ (s u : State) (b : Byte) (failed : State → FrameError → State), s.held = false → s.port.headComplete = false →
    (∀ v e, failed v e = if s.resetPending = true then v else v.occur srcFrameError (.frameError e)) →
    u = (if s.port.mode = .spi ∧ s.port.replies ≠ [] then s.setPort { s.port with outPos := s.port.outPos + 1 } else s) →
    (s.port.parser = .hunting → b ≠ 0xA5 →
      exec (.parserByteTaken b) s = .next (u.setPort (u.port.seen s.now)))
    ∧ (s.port.parser = .hunting → b = 0xA5 →
      exec (.parserByteTaken b) s = .next (u.setPort { u.port.seen s.now with parser := .length none }))
    ∧ (s.port.parser = .length none →
      exec (.parserByteTaken b) s = .next (u.setPort { u.port.seen s.now with parser := .length (some b) }))
    ∧ (∀ low, s.port.parser = .length (some low) → 2 ≤ low.toNat + 256 * b.toNat → low.toNat + 256 * b.toNat ≤ 1030 →
      exec (.parserByteTaken b) s
        = .next (u.setPort { u.port.seen s.now with parser := .content (low.toNat + 256 * b.toNat) [] }))
    ∧ (∀ low, s.port.parser = .length (some low) →
      (low.toNat + 256 * b.toNat < 2 ∨ 1030 < low.toNat + 256 * b.toNat) →
      exec (.parserByteTaken b) s
        = .next (failed (u.setPort (u.port.received s.now)) .oversize))
    ∧ (∀ len got, s.port.parser = .content len got → got.length + 1 < len →
      exec (.parserByteTaken b) s = .next (u.setPort { u.port.seen s.now with parser := .content len (got ++ [b]) }))
    ∧ (∀ len got, s.port.parser = .content len got → len ≤ got.length + 1 →
      exec (.parserByteTaken b) s = .next (u.setPort { u.port.seen s.now with parser := .check (got ++ [b]) none }))
    ∧ (∀ content, s.port.parser = .check content none →
      exec (.parserByteTaken b) s = .next (u.setPort { u.port.seen s.now with parser := .check content (some b) }))
    ∧ (∀ tag kind body low, s.port.parser = .check (tag :: kind :: body) (some low) →
      b ++ low = frameCheck tag kind body → exec (.parserByteTaken b) s = .next (u.goodFrame tag kind body))
    ∧ (∀ tag kind body low, s.port.parser = .check (tag :: kind :: body) (some low) →
      b ++ low ≠ frameCheck tag kind body →
      exec (.parserByteTaken b) s
        = .next (failed (u.setPort (u.port.received s.now)) .check))

/-- The bytes of a host frame, taken one at a time from HUNTING, come to exactly the command of the request they spell:
the parser drops no byte and misreads none. -/
def Obligations.BytesOfAFrameAreTheRequest : Prop :=
  ∀ (s : State) (tag kind : Byte) (body : Bytes), s.held = false → s.port.parser = .hunting →
    (s.port.mode = .uart ∨ s.port.replies = []) → body.length ≤ 1028 →
    execAll ((frameBytes tag kind body).map .parserByteTaken) s = .next (s.goodFrame tag kind body)
    ∧ (∀ q : Request, q.code = kind →
        execAll ((frameBytes tag kind body).map .parserByteTaken) s = exec (q.command tag body) s)

/-! ### Requests in general -/

/-- Read requests are taken in every engine state and change nothing outside the Host Port. A request that is not answered
OK changes nothing outside the Host Port, and its reply carries no fields. -/
def Obligations.WhatARequestMayChange : Prop :=
  (∀ (q : Request) (tag : Byte) (body : Bytes) (s : State), q.reads = true → s.takes tag q.code body →
     ∃ st fields, exec (q.command tag body) s = .next (s.answered s q tag body st fields) ∧ st ≠ .wrongState)
  ∧ (∀ (q : Request) (tag : Byte) (body : Bytes) (s : State), s.takes tag q.code body →
       (q.answer body s).2.status ≠ .ok →
       exec (q.command tag body) s = .next (s.refused q tag body (q.answer body s).2.status))

/-! ### Reading the part, the line and the rounds -/

/-- IDENTIFY: the identification and the capacities of the part, with the two strap readings. -/
def Obligations.IdentifyReply : Prop :=
  ∀ (tag : Byte) (body : Bytes) (s : State), s.takes tag 0x01 body →
    exec (.identify tag body) s = .next (
      if body.length ≠ 0 then s.refused .identify tag body .badLength
      else s.answered s .identify tag body .ok
        [0x08, 0x46, 2, if s.port.mode = .uart then 1 else 0, if s.port.baudHigh = true then 1 else 0, 8, 4, 32,
         0x00, 0x10, 48, 40, 16, 0x00, 0x08, 88, 48, 4, 0x04, 0x04])

/-- READ LINE: the ten line parameters, the line state and the contention count; the line is OFF in STOPPED and HALTED
and QUIET in SETTLING. -/
def Obligations.ReadLineReply : Prop :=
  ∀ (tag : Byte) (body : Bytes) (s : State), s.takes tag 0x11 body →
    exec (.readLine tag body) s = .next (
      if body.length ≠ 0 then s.refused .readLine tag body .badLength
      else s.answered s .readLine tag body .ok
        (le1 s.line.config.rate ++ le1 s.line.config.turnGuard
          ++ le1 (if s.line.config.contentionPolicy = .yield then 0 else 1)
          ++ le1 (if s.line.config.headerPolicy = .strict then 0 else 1)
          ++ le1 (if s.line.config.crcCheck = true then 1 else 0)
          ++ le2 s.line.config.writeTimeout ++ le2 s.line.config.readTimeout ++ le2 s.line.config.pollTimeout
          ++ le2 s.line.config.probeTimeout ++ le2 s.line.config.stuckTime
          ++ le1 (match s.line.activity.state with
              | .off => 0 | .quiet => 1 | .sending => 2 | .offered => 3 | .listening => 4 | .reclaim => 5)
          ++ le2 s.line.contentions))
    ∧ (s.lineSafe → s.engine.state = .stopped ∨ s.engine.state = .halted → s.line.activity.state = .off)
    ∧ (s.lineSafe → s.engine.state = .settling → s.line.activity.state = .quiet)

/-- READ ROUND: the engine state, the round counter, the eight round parameters, and the two derived figures: D and the
closing gap in microseconds, rounded up, with the closing gap 0 when D exceeds the round length. -/
def Obligations.ReadRoundReply : Prop :=
  ∀ (tag : Byte) (body : Bytes) (s : State) (d len : Nat), s.takes tag 0x15 body →
    d = 60 + (s.engine.table.map fun g => 80 + 10 * g.len).sum
        + (if s.engine.table = [] then 0
           else 20 + (s.engine.table.length - 1)
              * (if s.engine.config.segmentGap = 0 then 20 else s.engine.config.segmentGap * s.line.config.rate)) →
    len = (if s.engine.config.mode = .timed then s.engine.config.period else s.engine.config.minPeriod)
        * s.line.config.rate →
    exec (.readRound tag body) s = .next (
      if body.length ≠ 0 then s.refused .readRound tag body .badLength
      else s.answered s .readRound tag body .ok
        (le1 (match s.engine.state with
            | .stopped => 0 | .settling => 1 | .running => 2 | .stopping => 3 | .halted => 4)
          ++ le4 s.engine.counter.toNat ++ le1 (if s.engine.config.mode = .timed then 0 else 1)
          ++ le2 s.engine.config.period ++ le2 s.engine.config.triggerDelay ++ le2 s.engine.config.minPeriod
          ++ le2 s.engine.config.maxPeriod ++ le2 s.engine.config.settleTime ++ le2 s.engine.config.segmentGap
          ++ le2 s.engine.config.minClosing
          ++ le4 ((d + s.line.config.rate - 1) / s.line.config.rate)
          ++ le2 (if len < d then 0 else (len - d + s.line.config.rate - 1) / s.line.config.rate)))

/-! ### Configuration requests -/

/-- CONFIGURE LINE and CONFIGURE ROUND: their three checks in order, and then all values at once; the Segment Table is not
looked at. -/
def Obligations.ConfigureLineAndRound : Prop :=
  (∀ (tag : Byte) (b : Bytes) (s : State), s.takes tag 0x10 b →
     exec (.configureLine tag b) s = .next (
       if b.length ≠ 15 then s.refused .configureLine tag b .badLength
       else if ¬ ((u8 b 0 = 1 ∨ u8 b 0 = 2 ∨ u8 b 0 = 4 ∨ u8 b 0 = 8 ∨ u8 b 0 = 16) ∧ 8 ≤ u8 b 1
           ∧ u8 b 2 ≤ 1 ∧ u8 b 3 ≤ 1 ∧ u8 b 4 ≤ 1
           ∧ (1 ≤ u16 b 5 ∧ u16 b 5 ≤ 4095) ∧ (1 ≤ u16 b 7 ∧ u16 b 7 ≤ 4095)
           ∧ (1 ≤ u16 b 9 ∧ u16 b 9 ≤ 4095) ∧ (1 ≤ u16 b 11 ∧ u16 b 11 ≤ 4095)
           ∧ (16 ≤ u16 b 13 ∧ u16 b 13 ≤ 4095)) then s.refused .configureLine tag b .badValue
       else if s.engine.state ≠ .stopped ∧ s.engine.state ≠ .halted then s.refused .configureLine tag b .wrongState
       else s.answered
         (s.setLine { s.line with config :=
           { rate := u8 b 0, turnGuard := u8 b 1
             contentionPolicy := if u8 b 2 = 0 then .yield else .persist
             headerPolicy := if u8 b 3 = 0 then .strict else .lenient
             crcCheck := decide (u8 b 4 = 1)
             writeTimeout := u16 b 5, readTimeout := u16 b 7, pollTimeout := u16 b 9, probeTimeout := u16 b 11
             stuckTime := u16 b 13 } })
         .configureLine tag b .ok []))
  ∧ (∀ (tag : Byte) (b : Bytes) (s : State), s.takes tag 0x14 b →
       exec (.configureRound tag b) s = .next (
         if b.length ≠ 15 then s.refused .configureRound tag b .badLength
         else if ¬ (u8 b 0 ≤ 1 ∧ 100 ≤ u16 b 1 ∧ u16 b 3 ≤ 4095 ∧ 100 ≤ u16 b 5 ∧ u16 b 5 ≤ u16 b 7 ∧ 20 ≤ u16 b 9
             ∧ (u16 b 11 = 0 ∨ (20 ≤ u16 b 11 ∧ u16 b 11 ≤ 4095)) ∧ 10 ≤ u16 b 13) then
           s.refused .configureRound tag b .badValue
         else if s.engine.state ≠ .stopped ∧ s.engine.state ≠ .halted then s.refused .configureRound tag b .wrongState
         else s.answered
           (s.setEngine { s.engine with config :=
             { mode := if u8 b 0 = 0 then .timed else .triggered
               period := u16 b 1, triggerDelay := u16 b 3, minPeriod := u16 b 5, maxPeriod := u16 b 7
               settleTime := u16 b 9, segmentGap := u16 b 11, minClosing := u16 b 13 } })
           .configureRound tag b .ok []))

/-- CONFIGURE STATION: its checks in order, a threshold of 0 keeping the current one; an accepted request replaces the
fields it carries and nothing else of the record. -/
def Obligations.ConfigureStation : Prop :=
  ∀ (tag : Byte) (b : Bytes) (s : State), s.takes tag 0x30 b →
    (b.length ≠ 8 →
      exec (.configureStation tag b) s = .next (s.refused .configureStation tag b .badLength))
    ∧ (b.length = 8 → 7 < u8 b 0 →
      exec (.configureStation tag b) s = .next (s.refused .configureStation tag b .badValue))
    ∧ (∀ i : StationId, b.length = 8 → u8 b 0 = i.val →
      ∀ suspect lost : Nat,
        suspect = (if u8 b 6 = 0 then (s.station i).suspectAfter else u8 b 6) →
        lost = (if u8 b 7 = 0 then (s.station i).lostAfter else u8 b 7) →
        exec (.configureStation tag b) s = .next (
          if ¬ (u8 b 1 ≤ 15 ∧ 1 ≤ u16 b 2 ∧ u16 b 2 ≤ 256 ∧ 1 ≤ u8 b 4 ∧ u8 b 6 ≤ 15 ∧ u8 b 7 ≤ 31
              ∧ suspect + 1 ≤ lost) then s.refused .configureStation tag b .badValue
          else if (u8 b 6 ≠ 0 ∨ u8 b 7 ≠ 0) ∧ (s.station i).state ≠ .disabled then
            s.refused .configureStation tag b .wrongState
          else s.answered
            (s.setStation i { s.station i with
              rxMask := BitVec.ofNat 4 (u8 b 1), msgLimit := u16 b 2, probeInterval := u8 b 4
              pollInterval := u8 b 5, suspectAfter := suspect, lostAfter := lost })
            .configureStation tag b .ok []))

/-! ### The Segment Table -/

/-- DEFINE SEGMENT: its checks in order; the record is placed by its index, replacing one of the same index whole, with
age 0 and no staged payload, and without an occurrence. DELETE SEGMENT: its checks in order; the record leaves the table and
nothing else changes. -/
def Obligations.DefineAndDeleteSegment : Prop :=
  (∀ (tag : Byte) (b : Bytes) (s : State), tableSafe s.engine.table → s.takes tag 0x20 b →
     (b.length < 5 ∨ 260 < b.length →
       exec (.defineSegment tag b) s = .next (s.refused .defineSegment tag b .badLength))
     ∧ (5 ≤ b.length → b.length ≤ 260 → 31 < u8 b 0 ∨ (7 < u8 b 1 ∧ u8 b 1 ≠ 15) ∨ 3 < u8 b 2 →
       exec (.defineSegment tag b) s = .next (s.refused .defineSegment tag b .badValue))
     ∧ (∀ g : Segment, 5 ≤ b.length → b.length ≤ 260 →
       g.index.val = u8 b 0 → g.destination.code = u8 b 1 → g.channel.val = u8 b 2 → g.freshness = u8 b 3 →
       g.active = b.drop 4 → g.staged = none → g.age = 0 →
       (s.engine.state ≠ .stopped → s.engine.state ≠ .halted →
         exec (.defineSegment tag b) s = .next (s.refused .defineSegment tag b .wrongState))
       ∧ (s.engine.state = .stopped ∨ s.engine.state = .halted →
         ∃ t : List Segment,
           (∀ h, h ∈ t ↔ h = g ∨ (h ∈ s.engine.table ∧ h.index ≠ g.index))
           ∧ t.Pairwise (fun x y => x.index < y.index)
           ∧ exec (.defineSegment tag b) s = .next (
               if 4096 < (t.map Segment.len).sum then s.refused .defineSegment tag b .tableFull
               else s.answered (s.setEngine { s.engine with table := t }) .defineSegment tag b .ok
                 [if s.engine.table.any (fun h => h.index == g.index) = true then 1 else 0]))))
  ∧ (∀ (tag : Byte) (b : Bytes) (s : State), s.takes tag 0x21 b →
       exec (.deleteSegment tag b) s = .next (
         if b.length ≠ 1 then s.refused .deleteSegment tag b .badLength
         else if 31 < u8 b 0 then s.refused .deleteSegment tag b .badValue
         else if s.engine.state ≠ .stopped ∧ s.engine.state ≠ .halted then s.refused .deleteSegment tag b .wrongState
         else if s.engine.table.any (fun g => g.index.val == u8 b 0) = false then s.refused .deleteSegment tag b .notFound
         else s.answered
           (s.setEngine { s.engine with table := s.engine.table.filter fun g => g.index.val != u8 b 0 })
           .deleteSegment tag b .ok []))

/-- UPDATE SEGMENT: its checks in order; active at once with age 0 in STOPPED and HALTED, staged in the other states; the
reply tells whether a staged payload was there before. READ SEGMENT: its checks in order, and the record as it stands. -/
def Obligations.UpdateAndReadSegment : Prop :=
  (∀ (tag : Byte) (b : Bytes) (s : State), s.takes tag 0x22 b →
     (b.length < 2 ∨ 257 < b.length →
       exec (.updateSegment tag b) s = .next (s.refused .updateSegment tag b .badLength))
     ∧ (2 ≤ b.length → b.length ≤ 257 → 31 < u8 b 0 →
       exec (.updateSegment tag b) s = .next (s.refused .updateSegment tag b .badValue))
     ∧ (∀ k : SegmentIndex, 2 ≤ b.length → b.length ≤ 257 → k.val = u8 b 0 →
       (s.engine.segment k = none →
         exec (.updateSegment tag b) s = .next (s.refused .updateSegment tag b .notFound))
       ∧ (∀ g, s.engine.segment k = some g →
         exec (.updateSegment tag b) s = .next (
           if (b.drop 1).length ≠ g.active.length then s.refused .updateSegment tag b .lengthMismatch
           else s.answered
             (s.setEngine { s.engine with table := s.engine.table.map fun x =>
               if x.index ≠ k then x
               else if s.engine.state = .stopped ∨ s.engine.state = .halted then
                 { x with active := b.drop 1, staged := none, age := 0 }
               else { x with staged := some (b.drop 1) } })
             .updateSegment tag b .ok [if g.staged = none then 0 else 1]))))
  ∧ (∀ (tag : Byte) (b : Bytes) (s : State), s.takes tag 0x23 b →
       (b.length ≠ 1 → exec (.readSegment tag b) s = .next (s.refused .readSegment tag b .badLength))
       ∧ (b.length = 1 → 31 < u8 b 0 →
         exec (.readSegment tag b) s = .next (s.refused .readSegment tag b .badValue))
       ∧ (∀ k : SegmentIndex, b.length = 1 → k.val = u8 b 0 →
         (s.engine.segment k = none →
           exec (.readSegment tag b) s = .next (s.refused .readSegment tag b .notFound))
         ∧ (∀ g, s.engine.segment k = some g →
           exec (.readSegment tag b) s = .next (s.answered s .readSegment tag b .ok
             (le1 g.index.val ++ le1 (match g.destination with | .station i => i.val | .broadcast => 15)
               ++ le1 g.channel.val ++ le2 g.active.length ++ le1 g.freshness ++ le1 g.age
               ++ le1 ((if g.freshness ≠ 0 ∧ g.freshness ≤ g.age then 1 else 0) + (if g.staged = none then 0 else 2))
               ++ g.active ++ (match g.staged with | some p => p | none => []))))))

/-! ### START and STOP -/

/-- A record can fit the layout when its placement names a gap whose full length holds its reservation and 20 bit
times: the closing gap of round length minus D, or a segment gap of segment_gap bit times behind a record that is not
the last. The reservation is that of the record's kind, in bit times. -/
def Obligations.FitOfARecord : Prop :=
  (∀ (s : State) (r : Record) (closing seg : Nat),
     s.engine.table.Pairwise (fun a b => a.index < b.index) →
     closing = (if s.engine.config.mode = .timed then s.engine.config.period else s.engine.config.minPeriod)
         * s.line.config.rate - fixedPart s.line.config s.engine.config s.engine.table →
     seg = s.engine.config.segmentGap * s.line.config.rate →
     (r.placement = .closing → (s.canFit r = true ↔ s.reservation r + 20 ≤ closing))
     ∧ (∀ k, r.placement = .afterSegment k →
       (∀ g, s.engine.table.getLast? = some g → g.index = k →
         (s.canFit r = true ↔ s.reservation r + 20 ≤ closing))
       ∧ ((∃ g ∈ s.engine.table, g.index = k) → (∀ g, s.engine.table.getLast? = some g → g.index ≠ k) →
         (s.canFit r = true ↔ s.engine.config.segmentGap ≠ 0 ∧ s.reservation r + 20 ≤ seg))
       ∧ ((∀ g ∈ s.engine.table, g.index ≠ k) → s.canFit r = false))
     ∧ (r.placement = .any →
       (s.canFit r = true ↔ s.reservation r + 20 ≤ closing
         ∨ (s.engine.config.segmentGap ≠ 0 ∧ 2 ≤ s.engine.table.length ∧ s.reservation r + 20 ≤ seg))))
  ∧ (∀ (s : State) (r : Record) (m : Nat),
       m = (match r.target with
         | .station i => (match (s.station i).identity with
           | some x => min (s.station i).msgLimit x.maxLength
           | none => (s.station i).msgLimit)
         | .broadcast => 0) →
       s.reservation r =
         match r.kind with
         | .send => 20 + (80 + 10 * r.length)
         | .write => 20 + (80 + 10 * r.length) + s.line.config.turnGuard
             + s.line.config.writeTimeout * s.line.config.rate + 140 + s.line.config.turnGuard
         | .read => 20 + 60 + s.line.config.turnGuard + s.line.config.readTimeout * s.line.config.rate
             + (80 + 10 * r.length + 80) + s.line.config.turnGuard
         | .poll => 20 + 60 + s.line.config.turnGuard + s.line.config.pollTimeout * s.line.config.rate
             + (80 + 10 * m + 80) + s.line.config.turnGuard
         | .probe => 20 + 60 + s.line.config.turnGuard + s.line.config.probeTimeout * s.line.config.rate
             + 240 + s.line.config.turnGuard)

/-- A bulk completion: the PENDING host records that match leave the list and complete, in list order, each with the
outcome given, its attempts, the round counter, clear flags, no word and no data; the sequence numbers rise by one, the
host admission count stays, and no other block changes. -/
def Obligations.BulkCompletion : Prop :=
  ∀ (s t : State) (p : Record → Bool) (o : TxnOutcome), t = s.completeAll p o →
    t = (s.setTxns t.txns).setReports t.reports
    ∧ t.txns = s.txns.filter (fun r => !(r.isHost && !r.onLine && p r))
    ∧ t.reports.queue.take s.reports.queue.length = s.reports.queue
    ∧ (t.reports.queue.drop s.reports.queue.length).map Report.body
        = (s.txns.filter fun r => r.isHost && !r.onLine && p r).map (fun r => ReportBody.completion
            { id := r.id, kind := r.kind, target := r.target, channel := r.channel, outcome := o,
              attempts := r.attempts, round := s.engine.counter,
              flags := ⟨false, false, false, false, false⟩, word := none, data := [] })
    ∧ numberedFrom s.reports.nextSeq (t.reports.queue.drop s.reports.queue.length)
    ∧ t.reports.nextSeq
        = s.reports.nextSeq + BitVec.ofNat 16 (s.txns.countP fun r => r.isHost && !r.onLine && p r)
    ∧ t.admission = s.admission

/-- START: its checks in order, the budget check included; then the records that cannot fit complete UNPLACEABLE, the
round counter and the trigger state are cleared, and the part enters SETTLING with the line QUIET. That the settle time is
counted from the tick at or after the request is the model's reading (log 16). -/
def Obligations.StartRequest : Prop :=
  ∀ (tag : Byte) (b : Bytes) (s u : State) (len : Nat), s.takes tag 0x28 b →
    len = (if s.engine.config.mode = .timed then s.engine.config.period else s.engine.config.minPeriod)
        * s.line.config.rate →
    u = s.completeAll (fun r => !s.canFit r) .unplaceable →
    exec (.start tag b) s = .next (
      if b.length ≠ 0 then s.refused .start tag b .badLength
      else if s.engine.state ≠ .stopped then s.refused .start tag b .wrongState
      else if len < fixedPart s.line.config s.engine.config s.engine.table
          + max (s.engine.config.minClosing * s.line.config.rate) 20 then s.refused .start tag b .tableOverrun
      else s.answered
        ((u.setEngine { s.engine with
          state := .settling, counter := 0, prevStart := none, pendingStart := none, deadline := none
          settleEnd := some ((s.now + 31) / 32 * 32 + micros s.engine.config.settleTime), roundEnd := none
          agenda := [] }).setLine { s.line with activity := .quiet ⟨s.now, 0⟩ })
        .start tag b .ok (le1 (s.txns.countP fun r => r.isHost && !r.onLine && !s.canFit r)))

/-- STOP: answered OK in every state. It ends SETTLING at once, clears a fault, turns the present round into the
STOPPING round, whose end it fixes, and does nothing in STOPPED and STOPPING. -/
def Obligations.StopRequest : Prop :=
  ∀ (tag : Byte) (b : Bytes) (s stopped stopping : State), s.takes tag 0x29 b →
    stopped = (((((s.setLine { s.line with activity := .off }).setEngine { s.engine with
        state := .stopped, prevStart := none, pendingStart := none, deadline := none, settleEnd := none
        roundEnd := none, agenda := [] }).setSched { s.sched with openGap := none }).completeAll
        (fun _ => true) .stopped).removeInternal (fun _ => true)).occur srcEngineState (.engine .stopped) →
    stopping = (s.setEngine { s.engine with
        state := .stopping, pendingStart := none
        roundEnd := some (match s.engine.config.mode, s.engine.prevStart with
          | .timed, some p => p + micros s.engine.config.period
          | .triggered, some p => max s.now (p + micros s.engine.config.minPeriod)
          | _, none => s.now)
        agenda := s.engine.agenda.filter fun x => match x with
          | .segment _ _ => true
          | .gap _ _ _ => false }).setSched { s.sched with openGap := none } →
    (b.length ≠ 0 → exec (.stop tag b) s = .next (s.refused .stop tag b .badLength))
    ∧ (b.length = 0 → s.engine.state = .stopped ∨ s.engine.state = .stopping →
      exec (.stop tag b) s = .next (s.answered s .stop tag b .ok []))
    ∧ (b.length = 0 → s.engine.state = .settling →
      exec (.stop tag b) s = .next (s.answered stopped .stop tag b .ok []))
    ∧ (b.length = 0 → s.engine.state = .halted →
      exec (.stop tag b) s = .next (s.answered
        ((s.setEngine { s.engine with state := .stopped }).occur srcEngineState (.engine .stopped)) .stop tag b .ok []))
    ∧ (b.length = 0 → s.engine.state = .running →
      (∀ e, stopping.engine.roundEnd = some e → s.now < e →
        exec (.stop tag b) s = .next (s.answered stopping .stop tag b .ok []))
      ∧ (∀ e, stopping.engine.roundEnd = some e → e ≤ s.now → s.isQuiet = true →
        exec (.stop tag b) s = .next (s.answered stopped .stop tag b .ok [])))

/-! ### Station requests -/

/-- ENABLE STATION: a DISABLED station becomes OFFLINE with a probe due; nothing else changes. DISABLE STATION, in order:
the station's PENDING host records complete STATION_DISABLED, its PENDING internal record is removed, and its record is reset
in four fields and keeps the others. -/
def Obligations.EnableAndDisableStation : Prop :=
  (∀ (tag : Byte) (b : Bytes) (s : State), s.takes tag 0x31 b →
     (b.length ≠ 1 → exec (.enableStation tag b) s = .next (s.refused .enableStation tag b .badLength))
     ∧ (b.length = 1 → 7 < u8 b 0 →
       exec (.enableStation tag b) s = .next (s.refused .enableStation tag b .badValue))
     ∧ (∀ i : StationId, b.length = 1 → u8 b 0 = i.val →
       exec (.enableStation tag b) s = .next (s.answered
         (if (s.station i).state = .disabled then
           s.setStation i { s.station i with state := .offline, probeDue := true } else s)
         .enableStation tag b .ok [])))
  ∧ (∀ (tag : Byte) (b : Bytes) (s : State), s.takes tag 0x32 b →
       (b.length ≠ 1 → exec (.disableStation tag b) s = .next (s.refused .disableStation tag b .badLength))
       ∧ (b.length = 1 → 7 < u8 b 0 →
         exec (.disableStation tag b) s = .next (s.refused .disableStation tag b .badValue))
       ∧ (∀ (i : StationId) (u : State), b.length = 1 → u8 b 0 = i.val →
         u = s.completeAll (fun r => decide (r.target = .station i)) .stationDisabled →
         exec (.disableStation tag b) s = .next (s.answered
           ((u.setTxns (u.txns.filter fun r => r.isHost || r.onLine || decide (r.target ≠ .station i))).setStation i
             { s.station i with state := .disabled, failures := 0, seqNext := false, probeDue := false })
           .disableStation tag b .ok
           (le1 (s.txns.countP fun r => r.isHost && !r.onLine && decide (r.target = .station i))))))

/-- READ STATION: the 45-byte reply, field by field. -/
def Obligations.ReadStationReply : Prop :=
  ∀ (tag : Byte) (b : Bytes) (s : State), s.takes tag 0x33 b →
    (b.length ≠ 1 → exec (.readStation tag b) s = .next (s.refused .readStation tag b .badLength))
    ∧ (b.length = 1 → 7 < u8 b 0 →
      exec (.readStation tag b) s = .next (s.refused .readStation tag b .badValue))
    ∧ (∀ (i : StationId) (st : Station) (internal : Option Record), b.length = 1 → u8 b 0 = i.val →
      st = s.station i →
      internal = s.txns.find? (fun r => !r.isHost && decide (r.target = .station i)) →
      ∃ fields : Bytes, exec (.readStation tag b) s = .next (s.answered s .readStation tag b .ok fields)
        ∧ fields.length = 43
        ∧ fields = le1 i.val
          ++ le1 (match st.state with
              | .disabled => 0 | .offline => 1 | .online => 2 | .suspect => 3 | .resync => 4)
          ++ le1 st.rxMask.toNat ++ le2 st.msgLimit ++ le1 st.suspectAfter ++ le1 st.lostAfter
          ++ le1 st.probeInterval ++ le1 st.pollInterval
          ++ le1 ((if st.probeDue = true then 1 else 0) + (if st.identity = none then 0 else 2)
              + (if st.lastReport = none then 0 else 4)
              + (match internal with
                  | none => 0
                  | some r => 8 + (if r.kind = .probe then 16 else 0) + (if r.onLine = true then 32 else 0)))
          ++ le2 (match st.identity with | some x => min st.msgLimit x.maxLength | none => st.msgLimit)
          ++ le1 (if st.seqNext = true then 1 else 0) ++ le1 st.failures
          ++ le4 st.lastProbeRound.toNat ++ le4 st.lastPollRound.toNat
          ++ (match st.identity with
              | some x => le2 x.typeCode.toNat ++ le1 x.revision.toNat ++ le1 x.channels.toNat ++ le2 x.maxLength
                  ++ le2 x.serialLow.toNat
              | none => [0, 0, 0, 0, 0, 0, 0, 0])
          ++ (match st.lastReport with
              | some (w, r) => le2 w.toNat ++ le4 r.toNat
              | none => [0, 0, 0, 0, 0, 0])
          ++ le2 st.repliesGood ++ le2 st.failuresTotal ++ le2 st.messagesDiscarded
          ++ le1 (s.txns.countP fun r => r.isHost && decide (r.target = .station i)))

/-! ### Transaction requests -/

/-- SUBMIT's body: BAD_LENGTH is worked out from the bytes before any range is judged, then BAD_VALUE; a body that passes
both carries exactly these fields. -/
def Obligations.SubmitBody : Prop :=
  ∀ (tag : Byte) (b : Bytes) (s : State) (ok : Prop), s.takes tag 0x40 b →
    (ok ↔ (1 ≤ u16 b 0 ∧ u16 b 0 ≤ 0xEFFF) ∧ (u8 b 2 = 1 ∨ u8 b 2 = 2 ∨ u8 b 2 = 3)
      ∧ (u8 b 3 ≤ 7 ∨ (u8 b 3 = 15 ∧ u8 b 2 = 3)) ∧ u8 b 4 ≤ 3 ∧ (1 ≤ u16 b 5 ∧ u16 b 5 ≤ 256)
      ∧ u8 b 7 ≤ 2 ∧ (u8 b 7 = 1 → u8 b 8 ≤ 31) ∧ u8 b 13 ≤ 7) →
    (b.length < 14 ∨ b.length ≠ (if u8 b 2 = 2 then 14 else 14 + u16 b 5) →
      exec (.submit tag b) s = .next (s.refused .submit tag b .badLength))
    ∧ (14 ≤ b.length → b.length = (if u8 b 2 = 2 then 14 else 14 + u16 b 5) → ¬ ok →
      exec (.submit tag b) s = .next (s.refused .submit tag b .badValue))
    ∧ (14 ≤ b.length → b.length = (if u8 b 2 = 2 then 14 else 14 + u16 b 5) → ok →
      ∃ v, decodeSubmit b = .ok v ∧ v.id = u16 b 0 ∧ v.kind.code = u8 b 2 ∧ v.target.code = u8 b 3
        ∧ v.channel.val = u8 b 4 ∧ v.length = u16 b 5
        ∧ (match v.placement with
            | .closing => u8 b 7 = 0
            | .afterSegment k => u8 b 7 = 1 ∧ k.val = u8 b 8
            | .any => u8 b 7 = 2)
        ∧ v.delay = u16 b 9 ∧ v.lifetime = (if u16 b 11 = 0 then none else some (u16 b 11))
        ∧ v.retryBudget = u8 b 13 ∧ v.payload = b.drop 14)

/-- SUBMIT's checks 3 to 8 in order, and the accepted record: appended at the tail, PENDING, without attempts, anchored
at once in RUNNING and unanchored in the other states. -/
def Obligations.SubmitRequest : Prop :=
  ∀ (tag : Byte) (b : Bytes) (s : State) (v : Submission) (r : Record) (early : Round),
    s.takes tag 0x40 b → decodeSubmit b = .ok v →
    early = s.engine.counter + BitVec.ofNat 32 v.delay →
    r = { id := v.id, kind := v.kind, target := v.target, channel := v.channel, length := v.length
          payload := v.payload, placement := v.placement, delay := v.delay, lifetime := v.lifetime
          retryBudget := v.retryBudget, attempts := 0, onLine := false, cancelRequested := false, last := none
          anchor := if s.engine.state = .running then
              some { earliest := early
                     expiry := match v.lifetime with
                       | some l => some (early + BitVec.ofNat 32 l - 1)
                       | none => none }
            else none
          due := decide (s.engine.state = .running ∧ v.delay = 0) } →
    v.delay ≤ 65535 →
    exec (.submit tag b) s = .next (
      if s.engine.state = .stopping then s.refused .submit tag b .wrongState
      else if 40 ≤ s.admission then s.refused .submit tag b .queueFull
      else if s.txns.any (fun x => x.id == v.id) = true then s.refused .submit tag b .duplicateId
      else match v.target with
        | .station i =>
          if (s.station i).state = .disabled ∨ (s.station i).state = .offline then
            s.refused .submit tag b .stationUnavailable
          else if (match (s.station i).identity with
              | some x => x.channels.getLsbD v.channel.val
              | none => false) = false then s.refused .submit tag b .badChannel
          else if s.canFit r = false then s.refused .submit tag b .neverFits
          else s.answered (s.setTxns (s.txns ++ [r])) .submit tag b .ok (submitFields r)
        | .broadcast =>
          if s.canFit r = false then s.refused .submit tag b .neverFits
          else s.answered (s.setTxns (s.txns ++ [r])) .submit tag b .ok (submitFields r))
    ∧ submitFields r = le2 v.id
        ++ (match s.engine.state, v.lifetime with
          | .running, some l => le1 3 ++ le4 early.toNat ++ le4 (early + BitVec.ofNat 32 l - 1).toNat
          | .running, none => le1 1 ++ le4 early.toNat ++ [0, 0, 0, 0]
          | _, _ => [0, 0, 0, 0, 0, 0, 0, 0, 0])

/-- CANCEL: its checks in order; a PENDING record completes CANCELLED at once, the ON_LINE record gets its
cancel_requested set and its attempt runs on. -/
def Obligations.CancelRequest : Prop :=
  ∀ (tag : Byte) (b : Bytes) (s : State), s.takes tag 0x41 b →
    (b.length ≠ 2 → exec (.cancel tag b) s = .next (s.refused .cancel tag b .badLength))
    ∧ (b.length = 2 → u16 b 0 = 0 ∨ 0xF000 ≤ u16 b 0 →
      exec (.cancel tag b) s = .next (s.refused .cancel tag b .badValue))
    ∧ (b.length = 2 → 1 ≤ u16 b 0 → u16 b 0 ≤ 0xEFFF →
      (s.txns.find? (fun r => r.id == u16 b 0) = none →
        exec (.cancel tag b) s = .next (s.refused .cancel tag b .notFound))
      ∧ (∀ r, s.txns.find? (fun r => r.id == u16 b 0) = some r → r.onLine = false →
        exec (.cancel tag b) s = .next (s.answered
          ((s.setTxns (s.txns.filter fun x => x.id != r.id)).queueReport (.completion
            { id := r.id, kind := r.kind, target := r.target, channel := r.channel, outcome := .cancelled
              attempts := r.attempts, round := s.engine.counter
              flags := ⟨false, false, false, false, false⟩, word := none, data := [] }))
          .cancel tag b .ok [0]))
      ∧ (∀ r, s.txns.find? (fun r => r.id == u16 b 0) = some r → r.onLine = true →
        exec (.cancel tag b) s = .next (s.answered
          (s.setTxns (s.txns.map fun x => if x.id = r.id then { r with cancelRequested := true } else x))
          .cancel tag b .ok [1])))

/-- READ QUEUE: the counts, the id of the ON_LINE record, and an entry of ten bytes for each record from the head. The
waiting reason of a PENDING record is the first of its seven that applies. -/
def Obligations.ReadQueueReply : Prop :=
  (∀ (s : State) (older : List Record) (r : Record),
     s.waitingReason older r =
       if r.anchor = none then 1
       else if r.due = false then 2
       else if r.isHost = true ∧ (∃ i, r.target = .station i ∧ (s.station i).state = .resync) then 3
       else if r.isHost = true ∧ (∃ x ∈ older, x.isHost = true ∧ x.target = r.target ∧ x.channel = r.channel) then 4
       else if r.kind = .poll ∧ ¬ (s.inbound.messages.length < 16
           ∧ s.limitOf r.target ≤ 2048 - (s.inbound.messages.map fun m => m.payload.length).sum) then 5
       else if ¬ (s.engine.state = .running ∧ ∃ g, s.sched.openGap = some g
           ∧ placementMatches s.engine.table r.placement g.kind = true
           ∧ s.now + s.bits (s.reservation r + 20) ≤ g.ends) then 6
       else 7)
  ∧ (∀ (tag : Byte) (b : Bytes) (s : State), s.takes tag 0x42 b →
       exec (.readQueue tag b) s = .next (
         if b.length ≠ 1 then s.refused .readQueue tag b .badLength
         else if u8 b 0 = 0 ∨ 48 < u8 b 0 then s.refused .readQueue tag b .badValue
         else s.answered s .readQueue tag b .ok
           (le1 s.txns.length ++ le1 (s.txns.countP fun r => r.isHost)
             ++ le1 ((s.txns.countP fun r => r.isHost) + s.reports.queue.countP fun x => x.isCompletion)
             ++ le2 (match s.txns.find? (fun r => r.onLine) with | some r => r.id | none => 0)
             ++ le1 (min (u8 b 0) s.txns.length)
             ++ (List.range (min (u8 b 0) s.txns.length)).flatMap fun i =>
                 match s.txns[i]? with
                 | none => []
                 | some r =>
                   le2 r.id ++ le1 r.kind.code ++ le1 (match r.target with | .station j => j.val | .broadcast => 15)
                     ++ le1 r.channel.val ++ le1 (if r.onLine = true then 1 else 0) ++ le1 r.attempts
                     ++ le1 (if r.cancelRequested = true then 1 else 0)
                     ++ le1 (if r.onLine = true then 0 else s.waitingReason (s.txns.take i) r)
                     ++ le1 (match r.last with | some x => x.outcome.code | none => 0xFF))))

/-! ### Inbound messages, reports and events -/

/-- CONFIGURE INBOUND: its checks in order; the threshold is replaced without an occurrence, and the reply gives the
previous threshold, the message count and the bytes held. TAKE MESSAGES: the oldest messages as far as the maximum and the
1022 bytes of the reply allow; they leave the queue, and the reply gives what remains. -/
def Obligations.InboundRequests : Prop :=
  (∀ (tag : Byte) (b : Bytes) (s : State), s.takes tag 0x50 b →
     exec (.configureInbound tag b) s = .next (
       if b.length ≠ 1 then s.refused .configureInbound tag b .badLength
       else if u8 b 0 = 0 ∨ 16 < u8 b 0 then s.refused .configureInbound tag b .badValue
       else s.answered (s.setInbound { s.inbound with threshold := u8 b 0 }) .configureInbound tag b .ok
         (le1 s.inbound.threshold ++ le1 s.inbound.messages.length
           ++ le2 (s.inbound.messages.map fun m => m.payload.length).sum)))
  ∧ (∀ (tag : Byte) (b : Bytes) (s : State), s.takes tag 0x51 b →
       (b.length ≠ 1 → exec (.takeMessages tag b) s = .next (s.refused .takeMessages tag b .badLength))
       ∧ (b.length = 1 → u8 b 0 = 0 ∨ 8 < u8 b 0 →
         exec (.takeMessages tag b) s = .next (s.refused .takeMessages tag b .badValue))
       ∧ (b.length = 1 → 1 ≤ u8 b 0 → u8 b 0 ≤ 8 →
         ∃ (k : Nat) (taken rest : List Message), s.inbound.messages = taken ++ rest ∧ taken.length = k
           ∧ k ≤ u8 b 0 ∧ (taken.map fun m => 8 + m.payload.length).sum ≤ 1022
           ∧ (k = u8 b 0 ∨ rest = []
               ∨ ∃ m more, rest = m :: more
                   ∧ 1022 < (taken.map fun m => 8 + m.payload.length).sum + (8 + m.payload.length))
           ∧ exec (.takeMessages tag b) s = .next (s.answered
               (s.setInbound { s.inbound with messages := rest }) .takeMessages tag b .ok
               (le1 k ++ le1 rest.length ++ le2 (rest.map fun m => m.payload.length).sum
                 ++ taken.flatMap fun m =>
                   le1 (m.station.val + 16 * m.channel.val)
                     ++ le1 ((if m.headerCorrected = true then 1 else 0) + (if m.headerSuspect = true then 2 else 0))
                     ++ le2 m.payload.length ++ le4 m.arrival.toNat ++ m.payload))))

/-- FETCH REPORTS: the oldest reports as far as the maximum and the 1024 bytes of the reply allow, none of them removed;
an EVENT report takes 12 bytes and a COMPLETION report 20 and its data. The source fixes an event's detail form, and each
detail has its value. READ EVENTS: the reports held, the next sequence
number, and an entry of eight bytes for every source in order. -/
def Obligations.ReadingReportsAndEvents : Prop :=
  (∀ (tag : Byte) (b : Bytes) (s : State), s.takes tag 0x60 b →
     (b.length ≠ 1 → exec (.fetchReports tag b) s = .next (s.refused .fetchReports tag b .badLength))
     ∧ (b.length = 1 → u8 b 0 = 0 ∨ 16 < u8 b 0 →
       exec (.fetchReports tag b) s = .next (s.refused .fetchReports tag b .badValue))
     ∧ (b.length = 1 → 1 ≤ u8 b 0 → u8 b 0 ≤ 16 →
       ∃ (k : Nat) (read rest : List Report), s.reports.queue = read ++ rest ∧ read.length = k
         ∧ k ≤ u8 b 0 ∧ (read.map fun r => r.bytes.length).sum ≤ 1024
         ∧ (k = u8 b 0 ∨ rest = []
             ∨ ∃ r more, rest = r :: more ∧ 1024 < (read.map fun r => r.bytes.length).sum + r.bytes.length)
         ∧ exec (.fetchReports tag b) s = .next (s.answered s .fetchReports tag b .ok
             (le1 k ++ le1 s.reports.queue.length ++ read.flatMap Report.bytes)))
     ∧ (∀ (seq : BitVec 16) (c : Completion),
         Report.bytes { seq := seq, body := .completion c }
           = le2 seq.toNat ++ le1 1 ++ le2 c.id ++ le1 c.kind.code ++ le1 c.target.code ++ le1 c.channel.val
             ++ le1 c.outcome.code ++ le1 c.attempts ++ le4 c.round.toNat
             ++ le1 ((if c.flags.headerCorrected = true then 1 else 0) + (if c.flags.headerSuspect = true then 2 else 0)
                 + (if c.flags.crcUnchecked = true then 4 else 0) + (if c.flags.noReturn = true then 8 else 0)
                 + (if c.flags.trailerBad = true then 16 else 0))
             ++ (match c.word with | some w => le1 1 ++ le2 w.toNat | none => [0, 0, 0])
             ++ le2 c.data.length ++ c.data)
     ∧ (∀ (seq : BitVec 16) (e : Event),
         Report.bytes { seq := seq, body := .event e }
           = le2 seq.toNat ++ le1 2 ++ le1 e.source.val ++ le1 e.count ++ le1 (detailForm e.source)
             ++ le2 (match e.detail with | some d => d.value | none => 0) ++ le4 e.round.toNat)
     ∧ (∀ i : StationId, detailForm (stationSource i 0) = 1 ∧ detailForm (stationSource i 1) = 2
         ∧ detailForm (stationSource i 2) = 2 ∧ detailForm (stationSource i 3) = 3 ∧ detailForm (stationSource i 4) = 4
         ∧ ∀ k : Fin 5, (stationSource i k).val = 5 * i.val + k.val)
     ∧ detailForm 40 = 5 ∧ detailForm 41 = 6 ∧ detailForm 42 = 7 ∧ detailForm 43 = 6 ∧ detailForm 44 = 8
     ∧ detailForm 45 = 9 ∧ detailForm 46 = 10 ∧ detailForm 47 = 11
     ∧ (srcSegmentStale = 40 ∧ srcEngineState = 41 ∧ srcContention = 42 ∧ srcLineFault = 43 ∧ srcTrigger = 44
         ∧ srcInboundThreshold = 45 ∧ srcPollsHeld = 46 ∧ srcFrameError = 47)
     ∧ (∀ d : Detail, d.value = match d with
         | .joined => 1
         | .recovered => 2
         | .outcome o => (match o with
             | .done => 0 | .doneNoted => 1 | .sent => 2 | .refused => 3 | .noResponse => 4 | .replyCorrupt => 5
             | .replyCrc => 6 | .replyTruncated => 7 | .replyStale => 8 | .contention => 9 | .cancelled => 10
             | .expired => 11 | .stationLost => 12 | .stationDisabled => 13 | .stopped => 14 | .lineFault => 15
             | .unplaceable => 16)
         | .kind k => (match k with | .write => 1 | .read => 2 | .send => 3 | .poll => 4 | .probe => 5)
         | .word w => w.toNat
         | .segment k => k.val
         | .engine e => (match e with | .stopped => 0 | .settling => 1 | .running => 2 | .stopping => 3 | .halted => 4)
         | .frame k => (match k with
             | .sync => 0x01 | .segment => 0x02 | .write => 0x04 | .read => 0x05 | .send => 0x06 | .poll => 0x08
             | .join => 0x09 | .ack => 0x11 | .data => 0x12 | .nothing => 0x13 | .message => 0x14 | .ident => 0x15
             | .errorReport => 0x1E)
         | .early => 1
         | .missing => 2
         | .count n => n
         | .station i => i.val
         | .frameError e => (match e with
             | .check => 1 | .cut => 2 | .timeout => 3 | .oversize => 4 | .backlog => 5)))
  ∧ (∀ (tag : Byte) (b : Bytes) (s : State), s.takes tag 0x68 b →
       exec (.readEvents tag b) s = .next (
         if b.length ≠ 0 then s.refused .readEvents tag b .badLength
         else s.answered s .readEvents tag b .ok
           (le1 s.reports.queue.length ++ le2 s.reports.nextSeq.toNat
             ++ (List.finRange 48).flatMap fun src =>
               le1 ((if (s.source src).latched = true then 1 else 0) + (if (s.source src).masked = true then 2 else 0)
                   + (if s.reportQueued src = true then 4 else 0) + (if (s.source src).detail = none then 0 else 8))
                 ++ le1 (s.source src).count
                 ++ le2 (match (s.source src).detail with | some d => d.value | none => 0)
                 ++ le4 (s.source src).lastRound.toNat)))

/-- ACK REPORTS: every report up to and including the one named leaves the queue, and the admission count falls by the
completions among them; a number not in the queue is refused NOT_FOUND. Sources stay as they are. -/
def Obligations.AckReports : Prop :=
  ∀ (tag : Byte) (b : Bytes) (s : State), s.takes tag 0x61 b →
    (b.length ≠ 2 → exec (.ackReports tag b) s = .next (s.refused .ackReports tag b .badLength))
    ∧ (b.length = 2 → (∀ r ∈ s.reports.queue, r.seq.toNat ≠ u16 b 0) →
      exec (.ackReports tag b) s = .next (s.refused .ackReports tag b .notFound))
    ∧ (∀ (gone rest : List Report) (r : Report), b.length = 2 → s.reports.queue = gone ++ r :: rest →
      r.seq.toNat = u16 b 0 → (∀ x ∈ gone, x.seq ≠ r.seq) →
      ∃ t, t = s.answered (s.setReports { s.reports with queue := rest }) .ackReports tag b .ok
          (le1 (gone.length + 1) ++ le1 ((gone ++ [r]).countP fun x => x.isCompletion) ++ le1 rest.length)
        ∧ exec (.ackReports tag b) s = .next t
        ∧ s.admission = t.admission + (gone ++ [r]).countP (fun x => x.isCompletion)
        ∧ (t.attnLow = false ↔ rest = []))

/-- ACK EVENT: a source whose report is still queued is refused REPORT_UNREAD; an accepted one has latched and count
cleared and keeps the rest, and the reply gives what was cleared. -/
def Obligations.AckEvent : Prop :=
  ∀ (tag : Byte) (b : Bytes) (s : State), s.takes tag 0x69 b →
    (b.length ≠ 1 → exec (.ackEvent tag b) s = .next (s.refused .ackEvent tag b .badLength))
    ∧ (b.length = 1 → 47 < u8 b 0 → exec (.ackEvent tag b) s = .next (s.refused .ackEvent tag b .badValue))
    ∧ (∀ (src : SourceId) (e : Source), b.length = 1 → u8 b 0 = src.val → e = s.source src →
      exec (.ackEvent tag b) s = .next (
        if s.reportQueued src = true then s.refused .ackEvent tag b .reportUnread
        else s.answered (s.setSource src { e with latched := false, count := 0 }) .ackEvent tag b .ok
          (le1 ((if e.latched = true then 1 else 0) + (if e.detail = none then 0 else 2)) ++ le1 e.count
            ++ le2 (match e.detail with | some d => d.value | none => 0) ++ le4 e.lastRound.toNat)))

/-- MASK EVENTS: its checks in order; the pairs are applied in list order, and unmasking a latched source without a report
in the queue queues its report. -/
def Obligations.MaskEvents : Prop :=
  ∀ (tag : Byte) (b : Bytes) (s : State), s.takes tag 0x6A b →
    (b.length % 2 ≠ 0 ∨ b.length = 0 ∨ 96 < b.length →
      exec (.maskEvents tag b) s = .next (s.refused .maskEvents tag b .badLength))
    ∧ (b.length % 2 = 0 → 2 ≤ b.length → b.length ≤ 96 →
      (∃ i, 2 * i < b.length ∧ (47 < u8 b (2 * i) ∨ 1 < u8 b (2 * i + 1)))
        ∨ (∃ i j, i < j ∧ 2 * j < b.length ∧ u8 b (2 * i) = u8 b (2 * j)) →
      exec (.maskEvents tag b) s = .next (s.refused .maskEvents tag b .badValue))
    ∧ (∀ ps : List (SourceId × Bool), ps ≠ [] → (ps.map Prod.fst).Nodup →
      b = ps.flatMap (fun p => le1 p.1.val ++ le1 (if p.2 = true then 1 else 0)) →
      ∃ t, t = ps.foldl (fun (u : State) p =>
          if p.2 = false ∧ (u.source p.1).masked = true ∧ (u.source p.1).latched = true
              ∧ u.reportQueued p.1 = false then
            (u.setSource p.1 { u.source p.1 with masked := false }).queueReport (.event
              { source := p.1, count := (u.source p.1).count, detail := (u.source p.1).detail
                round := (u.source p.1).lastRound })
          else u.setSource p.1 { u.source p.1 with masked := p.2 }) s
        ∧ exec (.maskEvents tag b) s = .next (s.answered t .maskEvents tag b .ok
            (le1 (t.reports.queue.length - s.reports.queue.length))))

/-- An occurrence at a source: the count rises and is held at 255, detail and round are the latest, the source latches,
and the first occurrence of an unmasked source queues its EVENT report. -/
def Obligations.OccurrenceRule : Prop :=
  ∀ (s t : State) (src : SourceId) (d : Detail) (e : Source), e = s.source src → t = s.occur src d →
    t.source src = { e with latched := true, count := min 255 (e.count + 1), detail := some d,
                            lastRound := s.engine.counter }
    ∧ (∀ x, x ≠ src → t.source x = s.source x)
    ∧ (e.latched = true ∨ e.masked = true → t.reports = s.reports)
    ∧ (e.latched = false → e.masked = false →
      t.reports.queue = s.reports.queue ++ [⟨s.reports.nextSeq, .event
          { source := src, count := min 255 (e.count + 1), detail := some d, round := s.engine.counter }⟩]
      ∧ t.reports.nextSeq = s.reports.nextSeq + 1
      ∧ t.reportQueued src = true)
    ∧ t = (s.setEvents t.events).setReports t.reports

/-- ATTN is low exactly while the Report Queue holds a report: low when one is queued, high when the last is acknowledged,
unchanged by FETCH REPORTS, and high after a device reset. -/
def Obligations.AttnFollowsTheQueue : Prop :=
  ∀ s : State,
    (s.attnLow = true ↔ s.reports.queue ≠ [])
    ∧ (∀ x, (s.queueReport x).attnLow = true)
    ∧ (∀ (tag : Byte) (b : Bytes) (r : Report), s.takes tag 0x61 b → b.length = 2 →
        s.reports.queue.getLast? = some r → r.seq.toNat = u16 b 0 →
        (∀ x ∈ s.reports.queue.dropLast, x.seq ≠ r.seq) →
        ∃ t, exec (.ackReports tag b) s = .next t ∧ t.attnLow = false)
    ∧ (∀ (tag : Byte) (b : Bytes), s.takes tag 0x60 b →
        ∃ t, exec (.fetchReports tag b) s = .next t ∧ t.attnLow = s.attnLow)
    ∧ s.deviceReset.attnLow = false

/-- Round numbers are compared by their difference modulo 2^32; an expiry test holds first one round after E, and the
retry test fails from that round on; 131069 rounds lie inside the window. -/
def Obligations.RoundNumberComparison : Prop :=
  (∀ a b : Round, roundBefore a b = true ↔ 1 ≤ (b.toNat + 2 ^ 32 - a.toNat) % 2 ^ 32
      ∧ (b.toNat + 2 ^ 32 - a.toNat) % 2 ^ 32 ≤ 2 ^ 31 - 1)
  ∧ (∀ a b : Round, roundAtOrBefore a b = true ↔ (b.toNat + 2 ^ 32 - a.toNat) % 2 ^ 32 ≤ 2 ^ 31 - 1)
  ∧ (∀ (a : Round) (n : Nat), n ≤ 131069 → roundAtOrBefore a (a + BitVec.ofNat 32 n) = true)
  ∧ (∀ (e : Round) (n : Nat), n ≤ 131069 →
      roundBefore e (e - BitVec.ofNat 32 n) = false ∧ roundAtOrBefore (e - BitVec.ofNat 32 n) e = true)
  ∧ (∀ (e : Round) (n : Nat), n < 2 ^ 31 - 1 →
      roundBefore e (e + 1 + BitVec.ofNat 32 n) = true ∧ roundAtOrBefore (e + 1 + BitVec.ofNat 32 n) e = false)

/-! ### Rounds -/

/-- A round starts at the settle timer's expiry and at previous start plus period in TIMED mode, and at the pending start
or, without one, at the deadline in TRIGGERED mode, where the expiry only sets the reference of the deadline. In STOPPED,
STOPPING and HALTED none starts. That round 1 of TIMED mode is one step with the expiry is the model's reading (log 15). -/
def Obligations.RoundStartsAtItsMoment : Prop :=
  (∀ (c : Instr) (s : State) (m : Time) (missing : Bool), s.held = false → s.isQuiet = true → s.comes m →
    (c = .settleTimerExpiry ∧ missing = false ∧ s.engine.state = .settling ∧ s.engine.config.mode = .timed
        ∧ s.engine.settleEnd = some m)
      ∨ (c = .roundStart ∧ missing = false ∧ s.engine.state = .running ∧ s.engine.config.mode = .timed
        ∧ ∃ p, s.engine.prevStart = some p ∧ m = p + micros s.engine.config.period)
      ∨ (c = .roundStart ∧ missing = false ∧ (s.engine.state = .running ∨ s.engine.state = .settling)
        ∧ s.engine.config.mode = .triggered ∧ s.engine.pendingStart = some m)
      ∨ (c = .roundStart ∧ missing = true ∧ (s.engine.state = .running ∨ s.engine.state = .settling)
        ∧ s.engine.config.mode = .triggered ∧ s.engine.pendingStart = none ∧ s.engine.deadline = some m) →
    exec c s = .next ((s.upTo m).startRound missing))
  ∧ (∀ (s : State) (m : Time), s.held = false → s.isQuiet = true → s.comes m →
    s.engine.state = .settling → s.engine.config.mode = .triggered → s.engine.settleEnd = some m →
    exec .settleTimerExpiry s = .next ((s.upTo m).setEngine { s.engine with
      settleEnd := none, deadline := some (max s.now m + micros s.engine.config.maxPeriod) }))
  ∧ (∀ s : State, s.engine.state = .stopped ∨ s.engine.state = .stopping ∨ s.engine.state = .halted →
    exec .roundStart s = .next s)

/-- What the start of a round does, and the order of the occurrences and completions it makes: MISSING, RUNNING,
SEGMENT_STALE in index order, the expiry sweep. The counter rises, the trigger state is that of this start, the table commits
and ages, the list is swept, anchored and given the internal records the stations call for, and the SYNC frame begins. That a
record found unanchored at any round start is anchored there with the raised counter is the model's reading (log 19): R51
speaks of round 1, the only round at which a run finds one. That a station lost with probe_due yes is probed at the next round
start, by R125, and not probe_interval rounds later, as R123 has it, is the model's choice (log 31). -/
def Obligations.RoundStartEffects : Prop :=
  ∀ (s t u v w : State) (missing : Bool) (now : Round) (table : List Segment) (list : List Record)
    (call : StationId → Option TxnKind),
    t = s.startRound missing →
    now = s.engine.counter + 1 →
    table = s.engine.table.map (fun g => match g.staged with
      | some p => { g with active := p, staged := none, age := 0 }
      | none => { g with age := min 255 (g.age + 1) }) →
    u = (if missing = true then s.occur srcTrigger .missing else s).setEngine { s.engine with counter := now } →
    v = (if s.engine.state = .settling then u.occur srcEngineState (.engine .running) else u) →
    w = (((s.engine.table.filter fun g => decide (¬ (g.freshness ≠ 0 ∧ g.freshness ≤ g.age) ∧ g.freshness ≠ 0
          ∧ g.staged = none ∧ g.freshness ≤ min 255 (g.age + 1))).map Segment.index).foldl
          (fun x k => x.occur srcSegmentStale (.segment k)) v).completeAll
        (fun r => match r.expiryRound with | some e => roundBefore e now | none => false) .expired →
    list = w.txns.map (fun r => match r.anchor with
      | some a => { r with due := r.due || decide (a.earliest = now) }
      | none => { r with
          anchor := some { earliest := now + BitVec.ofNat 32 r.delay,
                           expiry := match r.lifetime with
                             | some l => some (now + BitVec.ofNat 32 r.delay + BitVec.ofNat 32 l - 1)
                             | none => none },
          due := decide (now + BitVec.ofNat 32 r.delay = now) }) →
    (∀ i, call i =
      if list.any (fun r => !r.isHost && decide (r.target = .station i)) = true then none
      else match (s.station i).state with
        | .disabled => none
        | .offline =>
          if (s.station i).probeDue = true ∨ (s.station i).probeInterval ≤ (now - (s.station i).lastProbeRound).toNat
          then some .probe else none
        | .resync => some .probe
        | .online | .suspect =>
          if (s.station i).pollInterval ≠ 0 ∧ (s.station i).pollInterval ≤ (now - (s.station i).lastPollRound).toNat
          then some .poll else none) →
    t.reports = w.reports ∧ t.events = w.events
    ∧ t.engine = { s.engine with
        state := if s.engine.state = .settling then .running else s.engine.state,
        counter := now, prevStart := some s.now, pendingStart := none, settleEnd := none,
        deadline := if s.engine.config.mode = .timed then none else some (s.now + micros s.engine.config.maxPeriod),
        table := table, agenda := agenda s.line.config s.engine.config table s.now }
    ∧ t.line = { s.line with activity := (.sending
        { kind := .sync,
          header := { kind := 0x01, seq := false, turn := false, mark := false, station := 15, channel := 0,
                      length := now.truncate 12 },
          payload := [], startAt := s.now, endAt := s.now + s.bits 60, contended := false }) }
    ∧ t.txns = list ++ allStations.filterMap (fun i => (call i).map fun k =>
        { id := (if k = .poll then 0xF000 else 0xF100) + i.val, kind := k, target := .station i, channel := 0,
          length := 0, payload := [], placement := if k = .poll then .any else .closing, delay := 0, lifetime := none,
          retryBudget := 0, anchor := some { earliest := now, expiry := none }, due := true, attempts := 0,
          onLine := false, cancelRequested := false, last := none })
    ∧ (∀ i, t.station i = match call i with
        | none => s.station i
        | some .poll => { s.station i with lastPollRound := now }
        | some _ => { s.station i with lastProbeRound := now, probeDue := false })
    ∧ t.now = s.now ∧ t.pending = s.pending ∧ t.hold = s.hold ∧ t.port = s.port ∧ t.sched = s.sched
    ∧ t.attempt = s.attempt ∧ t.inbound = s.inbound

/-- TRIG_EDGE: accepted with its delay when no start is pending and min_period is kept, EARLY otherwise; in SETTLING
ignored before the settle timer has expired, and in TIMED mode and the other states always. The edge's time is the first
tick of the time base at or after it (the model's reading, log 16), so a start it fixes lies on a tick and not in the past. -/
def Obligations.TriggerEdges : Prop :=
  ∀ (s : State) (t : Time), s.held = false → t = (s.now + 31) / 32 * 32 + micros s.engine.config.triggerDelay →
    (s.engine.config.mode = .timed → exec .trigEdge s = .next s)
    ∧ (s.engine.config.mode = .triggered →
      (s.engine.state = .stopped ∨ s.engine.state = .stopping ∨ s.engine.state = .halted →
        exec .trigEdge s = .next s)
      ∧ (s.engine.state = .settling → s.engine.settleEnd.isSome = true → exec .trigEdge s = .next s)
      ∧ (s.engine.state = .settling → s.engine.settleEnd = none → s.engine.pendingStart = none →
        exec .trigEdge s = .next (s.setEngine { s.engine with pendingStart := some t }))
      ∧ (s.engine.state = .settling → s.engine.settleEnd = none → s.engine.pendingStart ≠ none →
        exec .trigEdge s = .next (s.occur srcTrigger .early))
      ∧ (∀ p, s.engine.state = .running → s.engine.prevStart = some p →
        exec .trigEdge s = .next (
          if s.engine.pendingStart = none ∧ p + micros s.engine.config.minPeriod ≤ t then
            s.setEngine { s.engine with pendingStart := some t }
          else s.occur srcTrigger .early)))

/-- The layout of a round from its start: every segment's START time, the segment gaps when segment_gap is not 0, and one
closing gap from the end of the fixed part to the end of the round; nothing else, in order of time. -/
def Obligations.LayoutOfARound : Prop :=
  ∀ (ln : LineConfig) (rc : RoundConfig) (table : List Segment) (t0 : Time) (start : Nat → Nat),
    start 0 = 80 →
    (∀ j g, table[j]? = some g → start (j + 1)
      = start j + (80 + 10 * g.len) + (if rc.segmentGap = 0 then 20 else rc.segmentGap * ln.rate)) →
    (∀ d k, .segment d k ∈ agenda ln rc table t0 ↔
      ∃ j g, table[j]? = some g ∧ k = g.index ∧ d = t0 + ln.bits (start j))
    ∧ (∀ d k e, .gap d k e ∈ agenda ln rc table t0 ↔
      (k = .closing ∧ d = t0 + ln.bits (fixedPart ln rc table)
        ∧ e = t0 + micros (if rc.mode = .timed then rc.period else rc.minPeriod))
      ∨ (rc.segmentGap ≠ 0 ∧ ∃ j g, table[j]? = some g ∧ j + 1 < table.length ∧ k = .afterSegment g.index
        ∧ d = t0 + ln.bits (start j + (80 + 10 * g.len)) ∧ e = t0 + ln.bits (start (j + 1))))
    ∧ (agenda ln rc table t0).Pairwise (fun x y =>
        (match x with | .segment d _ => d | .gap d _ _ => d) ≤ (match y with | .segment d _ => d | .gap d _ _ => d))

/-- SEGMENT_FRAME sends the record's frame at its time in RUNNING and STOPPING; GAP_OPENING opens its gap in RUNNING, and a
walk follows; GAP_END closes it. -/
def Obligations.SegmentFramesAndGaps : Prop :=
  (∀ (s : State) (d : Time) (k : SegmentIndex) (rest : List RoundItem) (g : Segment), s.held = false →
    s.isQuiet = true → s.engine.state = .running ∨ s.engine.state = .stopping →
    s.engine.agenda = .segment d k :: rest → s.engine.segment k = some g → s.comes d →
    exec .segmentFrame s = .next (((s.upTo d).setEngine { s.engine with agenda := rest }).setLine
      { s.line with activity := (.sending
        { kind := .segment,
          header := { kind := 0x02, seq := false, turn := false,
                      mark := decide (g.freshness ≠ 0 ∧ g.freshness ≤ g.age),
                      station := BitVec.ofNat 4 g.destination.code, channel := BitVec.ofNat 2 g.channel.val,
                      length := BitVec.ofNat 12 g.active.length },
          payload := g.active, startAt := max s.now d,
          endAt := max s.now d + s.bits (80 + 10 * g.active.length), contended := false }) }))
  ∧ (∀ (s : State) (d ends : Time) (k : GapKind) (rest : List RoundItem), s.held = false → s.isQuiet = true →
    s.engine.state = .running → s.engine.agenda = .gap d k ends :: rest → s.comes d →
    exec .gapOpening s = .next (((s.upTo d).setEngine { s.engine with agenda := rest }).setSched
      { s.sched with openGap := some { kind := k, ends := ends } }).walk)
  ∧ (∀ s : State, s.engine.state ≠ .running → exec .gapOpening s = .next s)
  ∧ (∀ (s : State) (g : OpenGap), s.held = false → s.sched.openGap = some g → s.comes g.ends →
    exec .gapEnd s = .next ((s.upTo g.ends).setSched { s.sched with openGap := none }))

/-! ### The walk -/

/-- A walk, in RUNNING with an open gap that has not ended and no attempt on the line, starts the first record of the list
that is eligible, has room and fits, and no other; the first POLL held for room before it sets the polls-held flag and makes
the occurrence. Otherwise nothing is started. -/
def Obligations.WalkStartsTheFirstThatFits : Prop :=
  ∀ (s : State) (g : OpenGap) (eligible : List Record → Record → Prop) (room fits : Record → Prop)
    (held : List Record → State),
    (∀ older r, eligible older r ↔ r.onLine = false ∧ r.anchor ≠ none ∧ r.due = true
      ∧ placementMatches s.engine.table r.placement g.kind = true
      ∧ (r.isHost = true → ∀ i, r.target = .station i →
          (s.station i).state = .online ∨ (s.station i).state = .suspect)
      ∧ ¬ (r.isHost = true ∧ ∃ x ∈ older, x.isHost = true ∧ x.target = r.target ∧ x.channel = r.channel)) →
    (∀ r, room r ↔ (r.kind = .poll → s.inbound.messages.length < 16
      ∧ s.limitOf r.target ≤ 2048 - (s.inbound.messages.map fun m => m.payload.length).sum)) →
    (∀ r, fits r ↔ s.now + s.bits (s.reservation r + 20) ≤ g.ends
      ∧ (r.kind = .send → s.now + s.bits (s.reservation r + s.line.config.turnGuard + 20) ≤ g.ends)) →
    (∀ before,
      ((s.sched.pollsHeld = true
          ∨ ∀ older x after, before = older ++ x :: after → eligible older x → room x) → held before = s)
      ∧ (∀ older x after i, s.sched.pollsHeld = false → before = older ++ x :: after → eligible older x → ¬ room x →
          x.target = .station i →
          (∀ older' y after', older = older' ++ y :: after' → eligible older' y → room y) →
          held before = (s.setSched { s.sched with pollsHeld := true }).occur srcPollsHeld (.station i))) →
    (∀ r ∈ s.txns, r.kind = .poll → ∃ i, r.target = .station i) →
    s.sched.openGap = some g →
    (s.engine.state ≠ .running ∨ g.ends ≤ s.now ∨ (∃ r ∈ s.txns, r.onLine = true) → s.walk = s)
    ∧ (s.engine.state = .running → s.now < g.ends → (∀ r ∈ s.txns, r.onLine = false) →
      (∀ before r after, s.txns = before ++ r :: after → eligible before r → room r → fits r →
        (∀ older x rest, before = older ++ x :: rest → ¬ (eligible older x ∧ room x ∧ fits x)) →
        s.walk = (held before).startAttempt r)
      ∧ ((∀ older x rest, s.txns = older ++ x :: rest → ¬ (eligible older x ∧ room x ∧ fits x)) →
        s.walk = held s.txns))

/-- An attempt's start: the record is ON_LINE, the attempt holds what R92 gives it, the frame goes out with its leading
idle, and a POLL clears the polls-held flag; nothing else changes. -/
def Obligations.AttemptStart : Prop :=
  ∀ (s : State) (r : Record) (m : Nat) (seq : Option Bool) (kind : FrameKind),
    m = s.limitOf r.target →
    seq = (match r.kind, r.target with
      | .write, .station i => some (s.station i).seqNext
      | .read, .station i => some (s.station i).seqNext
      | .poll, .station i => some (s.station i).seqNext
      | .write, .broadcast => some false
      | .read, .broadcast => some false
      | .poll, .broadcast => some false
      | .send, _ => none
      | .probe, _ => none) →
    kind = (match r.kind with
      | .write => .write | .read => .read | .send => .send | .poll => .poll | .probe => .join) →
    s.startAttempt r =
      (((s.setTxns (s.txns.map fun x => if x.id = r.id then { x with onLine := true } else x)).setAttempt (some
        { phase := .sending, kind := r.kind, target := r.target, channel := r.channel, length := r.length,
          payload := r.payload,
          timeout := (match r.kind with
            | .write => s.line.config.writeTimeout | .read => s.line.config.readTimeout
            | .poll => s.line.config.pollTimeout | .probe => s.line.config.probeTimeout | .send => 0)
            * s.line.config.rate,
          allowance := match r.kind with
            | .write => 140 | .read => 80 + 10 * r.length + 80 | .poll => 80 + 10 * m + 80 | .probe => 240 | .send => 0,
          msgLimit := m, sentSeq := seq, first := none, trailer := none, provisional := none,
          flags := ⟨false, false, false, false, false⟩, word := none })).setLine
        { s.line with activity := (.sending
          { kind := kind,
            header := { kind := kind.code, seq := seq.getD false, turn := decide (r.kind ≠ .send), mark := false,
                        station := BitVec.ofNat 4 r.target.code, channel := BitVec.ofNat 2 r.channel.val,
                        length := BitVec.ofNat 12 r.length },
            payload := r.payload, startAt := s.now,
            endAt := s.now + s.bits (20 + (match r.kind with
              | .write | .send => 80 + 10 * r.length
              | .read | .poll | .probe => 60)),
            contended := false }) }).setSched
        { s.sched with pollsHeld := if r.kind = .poll then false else s.sched.pollsHeld }

/-! ### The end of a STOPPING round, and the line fault -/

/-- ROUND_END_STOPPING and LINE_FAULT: the line goes OFF, the trigger state and the rest of the round are cleared, every
PENDING host record completes STOPPED or LINE_FAULT, internal records are removed, and the occurrences follow. The stuck-line
count rises with every low sample of LINE_SENSE in QUIET and returns to 0 with a high one; LINE_FAULT is taken when it reaches
stuck_time, and below that nothing happens. That the samples are those of the bit times from the line's entry to QUIET, that
each counts at its bit time's end, and that bit times no level is given for read high, is the model's choice (log 9). -/
def Obligations.RoundEndAndLineFault : Prop :=
  ∀ (s u : State) (m : Time) (st : EngineState), s.held = false → s.comes m →
    u = (((s.upTo m).setLine { s.line with activity := .off }).setEngine { s.engine with
        state := st, prevStart := none, pendingStart := none, deadline := none, settleEnd := none,
        roundEnd := none, agenda := [] }).setSched { s.sched with openGap := none } →
    (st = .stopped → s.engine.state = .stopping → s.isQuiet = true → s.engine.roundEnd = some m →
      exec .roundEndStopping s = .next (((u.completeAll (fun _ => true) .stopped).removeInternal
        (fun _ => true)).occur srcEngineState (.engine .stopped)))
    ∧ (∀ (kept mon : StuckMonitor) (n : Nat) (levels : List Bool) (lows : Nat → Nat),
      s.engine.state = .settling ∨ s.engine.state = .running ∨ s.engine.state = .stopping →
      s.line.activity = .quiet kept → n = (s.now - kept.countedTo) / s.bits 1 →
      mon = (if n = 0 then kept else ⟨kept.countedTo + n * s.bits 1, 0⟩) →
      lows 0 = mon.lows →
      (∀ j high, levels[j]? = some high → lows (j + 1) = if high = true then 0 else lows j + 1) →
      (∀ k, st = .halted → 1 ≤ k → k ≤ levels.length → (∀ i, 1 ≤ i → i < k → lows i < s.line.config.stuckTime) →
        s.line.config.stuckTime ≤ lows k → m = mon.countedTo + s.bits k →
        exec (.lineFault levels) s = .next ((((u.completeAll (fun _ => true) .lineFault).removeInternal
          (fun _ => true)).occur srcLineFault (.engine s.engine.state)).occur srcEngineState (.engine .halted)))
      ∧ (1 ≤ levels.length → (∀ i, 1 ≤ i → i ≤ levels.length → lows i < s.line.config.stuckTime) →
        m = mon.countedTo + s.bits levels.length →
        exec (.lineFault levels) s = .next ((s.upTo m).setLine
          { s.line with activity := .quiet ⟨m, lows levels.length⟩ })))
    ∧ (∀ levels, s.isQuiet = false ∨ s.engine.state = .stopped ∨ s.engine.state = .halted →
      exec (.lineFault levels) s = .next s)

/-! ### The line and the turn -/

/-- FRAME_SENT: a round frame returns the line to QUIET; a transaction frame closed with TURN offers the line and starts the
guard; a SEND returns it to QUIET and ends its attempt SENT. -/
def Obligations.FrameSent : Prop :=
  ∀ (s : State) (f : SendFrame), s.held = false → s.line.activity = .sending f → s.comes f.endAt →
    (s.attempt = none →
      exec .frameSent s = .next ((s.upTo f.endAt).setLine { s.line with activity := .quiet ⟨max s.now f.endAt, 0⟩ }))
    ∧ (∀ a, s.attempt = some a → f.kind = .write ∨ f.kind = .read ∨ f.kind = .poll ∨ f.kind = .join →
      exec .frameSent s = .next (((s.upTo f.endAt).setLine { s.line with activity := (
        .offered (max s.now f.endAt + s.bits s.line.config.turnGuard)) }).setAttempt (some { a with phase := .guard })))
    ∧ (∀ a, s.attempt = some a → f.kind = .send →
      exec .frameSent s = .next (((s.upTo f.endAt).setLine
        { s.line with activity := .quiet ⟨max s.now f.endAt, 0⟩ }).endAttempt a .sent))

/-- CONTENTION: the level sensed in the middle of a bit time of the frame is compared with the driven one. The first
mismatch of a frame counts once and makes the CONTENTION occurrence; under YIELD the frame is cut off there and the line
reclaimed, for G bit times or by a round frame's scheduled end; under PERSIST the frame goes on. Equal levels, later mismatches
of the frame, and levels in the other line states, do nothing. The level driven is high in the leading idle, and then that of the
frame's byte times. A comparison whose moment has gone by does nothing (log 10). -/
def Obligations.Contention : Prop :=
  (∀ (f : SendFrame) (lead bit : Nat), lead = (if f.kind = .sync ∨ f.kind = .segment then 0 else 20) →
    f.byteTimes = 0x000#10 :: (f.dataBytes.map (fun b : Byte => 0x200#10 ||| (b.zeroExtend 10 <<< 1))
      ++ [if f.kind = .write ∨ f.kind = .read ∨ f.kind = .poll ∨ f.kind = .join then 0x01E#10 else 0x1FE#10])
    ∧ (bit < lead → f.drivenAt bit = some true)
    ∧ (lead ≤ bit → f.drivenAt bit
      = (f.byteTimes[(bit - lead) / 10]?).map fun x => x.getLsbD ((bit - lead) % 10)))
  ∧ (∀ (s : State) (bit : Nat) (high : Bool), s.held = false →
    (s.line.config.inRange = true → 2 * s.halfBit = s.bits 1)
    ∧ (∀ (f : SendFrame) (m : Time) (u : State), s.line.activity = .sending f →
      m = f.startAt + s.bits bit + s.halfBit → s.now ≤ m → s.comes m →
      f.drivenAt bit = some (!high) →
      u = (s.upTo m).occur srcContention (.frame f.kind) →
      (∀ a, m < f.endAt → f.contended = false → s.line.config.contentionPolicy = .yield →
        f.kind ≠ .sync → f.kind ≠ .segment → s.attempt = some a →
        exec (.contention bit high) s = .next ((u.setLine { s.line with
          contentions := min 65535 (s.line.contentions + 1),
          activity := .reclaim (m + s.bits s.line.config.turnGuard) }).setAttempt
          (some { a with phase := .reclaiming, provisional := some .contention })))
      ∧ (m < f.endAt → f.contended = false → s.line.config.contentionPolicy = .yield →
        f.kind = .sync ∨ f.kind = .segment →
        exec (.contention bit high) s = .next (u.setLine { s.line with
          contentions := min 65535 (s.line.contentions + 1),
          activity := .reclaim (min (m + s.bits s.line.config.turnGuard) f.endAt) }))
      ∧ (m < f.endAt → f.contended = false → s.line.config.contentionPolicy = .persist →
        exec (.contention bit high) s = .next (u.setLine { s.line with
          contentions := min 65535 (s.line.contentions + 1),
          activity := .sending { f with contended := true } }))
      ∧ (f.contended = true → exec (.contention bit high) s = .next (s.upTo m)))
    ∧ (∀ f, s.line.activity = .sending f → f.drivenAt bit = some high ∨ f.drivenAt bit = none
        ∨ f.startAt + s.bits bit + s.halfBit < s.now → exec (.contention bit high) s = .next s)
    ∧ (s.line.activity.state ≠ .sending → exec (.contention bit high) s = .next s))

/-- GUARD_END starts the response timer; STATION_START, a falling edge after which the line stays low for ten bit times,
moves the offered line to LISTENING, also during the guard, and starts the talk limit; in LISTENING with no frame in progress it
begins the next frame of the turn. A shorter low is no START, no edge is looked for inside a frame, and in any other line state a
START has no effect. That the START is taken at its falling edge, with the count of low bit times as the command's operand,
and that LISTENING and the talk limit begin at that edge, is the model's choice (log 23): R2 recognises a START only after ten
low bit times. RESPONSE_TIMER_EXPIRY makes the attempt NO_RESPONSE and reclaims the line. -/
def Obligations.TheOfferedLine : Prop :=
  ∀ (s : State) (a : Attempt), s.held = false → s.attempt = some a →
    (∀ g, s.line.activity = .offered g → a.phase = .guard → s.comes g →
      exec .guardEnd s = .next ((s.upTo g).setAttempt
        (some { a with phase := .waiting (max s.now g + s.bits a.timeout) })))
    ∧ (a.phase ≠ .guard → exec .guardEnd s = .next s)
    ∧ (∀ g low, s.line.activity = .offered g → 10 ≤ low →
      exec (.stationStart low) s = .next ((s.setLine { s.line with
        activity := .listening (.inFrame s.now) }).setAttempt
        (some { a with phase := .receiving (s.now + s.bits a.allowance) })))
    ∧ (∀ since low, s.line.activity = .listening (.noFrame since) → 10 ≤ low →
      exec (.stationStart low) s = .next (s.setLine { s.line with activity := .listening (.inFrame s.now) }))
    ∧ (∀ low, low < 10 → exec (.stationStart low) s = .next s)
    ∧ (∀ start low, s.line.activity = .listening (.inFrame start) → exec (.stationStart low) s = .next s)
    ∧ (∀ low, s.line.activity.state ≠ .offered → s.line.activity.state ≠ .listening →
      exec (.stationStart low) s = .next s)
    ∧ (∀ x, a.phase = .waiting x → s.comes x →
      exec .responseTimerExpiry s = .next (((s.upTo x).setLine { s.line with activity := (
        .reclaim (max s.now x + s.bits s.line.config.turnGuard)) }).setAttempt
        (some { a with phase := .reclaiming, provisional := some .noResponse })))

/-- A received frame is judged by the seven checks in order; the first that fails decides, and flags set by an earlier step
stay set. That a long frame which fails before step 6 leaves CRC_UNCHECKED as it was, although the row of R109 names any judged
long frame, is the model's choice (log 30). -/
def Obligations.FrameIsJudgedByTheSevenChecks : Prop :=
  ∀ (p : HeaderPolicy) (a : Attempt) (allowed : FrameKind → Bool) (f : DecodedFrame) (fl fl' : TxnFlags)
    (agrees closes : Bool),
    fl = (match f.headerClass, p with
      | .corrected, _ => { a.flags with headerCorrected := true }
      | .uncorrectable, .lenient => { a.flags with headerSuspect := true }
      | _, _ => a.flags) →
    (f.headerClass = .uncorrectable → p = .strict → judgeFrame p a allowed f = (some .replyCorrupt, a.flags))
    ∧ (f.headerClass ≠ .uncorrectable ∨ p = .lenient →
      ((∀ k : FrameKind, k.code ≠ f.header.kind) → judgeFrame p a allowed f = (some .replyCorrupt, fl))
      ∧ (∀ k : FrameKind, k.code = f.header.kind →
        fl' = (if k.isLong = true ∧ f.crc = .unchecked then { fl with crcUnchecked := true } else fl) →
        (agrees = true ↔ allowed k = true
          ∧ f.header.station = BitVec.ofNat 4 a.target.code
          ∧ (k = .ack ∨ k = .data → f.header.channel = BitVec.ofNat 2 a.channel.val)
          ∧ f.overrun = false
          ∧ (match k with
              | .ack | .nothing => f.header.length = 0 ∧ f.byteCount = 4
              | .errorReport => f.byteCount = 4
              | .data => 1 ≤ f.header.length.toNat ∧ f.header.length.toNat ≤ a.length
                  ∧ f.byteCount = 6 + f.header.length.toNat
              | .message => 1 ≤ f.header.length.toNat ∧ f.header.length.toNat ≤ a.msgLimit
                  ∧ f.byteCount = 6 + f.header.length.toNat
              | .ident => f.header.length = 8 ∧ f.byteCount = 14
              | .sync | .segment | .write | .read | .send | .poll | .join => False)) →
        (closes = true ↔ (f.header.mark = false ∧ f.header.turn = true ∧ f.closing = .turn)
          ∨ (k ≠ .errorReport ∧ f.header.mark = true ∧ f.header.turn = false ∧ f.closing = .ended)) →
        judgeFrame p a allowed f =
          if agrees = false then (some .replyCorrupt, fl)
          else if k.isLong = true ∧ f.crc = .mismatch then (some .replyCrc, fl)
          else if closes = false then (some .replyCorrupt, fl')
          else (none, fl')))

/-- DECODED_FRAME and TALK_LIMIT_EXPIRY: what a delivered frame, and the expiry, do in RECEIVING, TRAILER and IGNORING; the
line is reclaimed after a frame closed with TURN and after the expiry, and stays LISTENING otherwise. A trailer is the next
frame of the turn, begun by its own STATION_START; with no frame in progress none can end. A frame cut short by a START begins
the next one, also before its fourth byte (the model's choice, log 27). A frame whose end has gone by is delivered at the present
moment (the model's choice, log 29). -/
def Obligations.FramesOfTheTurn : Prop :=
  ∀ (s : State) (a : Attempt), s.held = false → s.attempt = some a →
    (∀ (ts : List ByteTime) (bytes : Bytes) (e : FrameEnd) (start m : Time) (f : DecodedFrame) (v : Option TxnOutcome)
        (fl : TxnFlags) (after : Attempt → State) (limit : Time),
      s.line.activity = .listening (.inFrame start) → collectBytes ts = (bytes, e) → e ≠ .unfinished →
      s.comes (start + s.bits (10 * (bytes.length + 2))) →
      m = max s.now (start + s.bits (10 * (bytes.length + 2))) →
      f = decodeStationFrame s.line.config.crcCheck bytes e →
      (∀ b, after b = ((s.upTo m).setLine { s.line with activity := (
          if f.closing = .turn then .reclaim (m + s.bits s.line.config.turnGuard)
          else .listening (if e = .start then .inFrame (m - s.bits 10) else .noFrame m)) }).setAttempt (some b)) →
      (a.phase = .receiving limit → (v, fl) = judgeFrame s.line.config.headerPolicy a a.kind.allows f →
        (∀ o, v = some o → exec (.decodedFrame ts) s = .next (after { a with
          first := some { frame := f, failure := some o }, flags := fl, provisional := some o,
          phase := if f.closing = .turn then .reclaiming else .ignoring limit }))
        ∧ (v = none → exec (.decodedFrame ts) s = .next (after { a with
          first := some { frame := f, failure := none }, flags := fl,
          provisional := some (if (∃ b, a.sentSeq = some b ∧ b ≠ f.header.seq) then .replyStale
            else if f.header.kind = 0x1E then .refused else .done),
          word := if f.header.kind = 0x1E then some f.header.length else none,
          phase := if f.header.mark = true then .trailer limit else .reclaiming })))
      ∧ (∀ j, a.phase = .trailer limit → a.first = some j →
        (v, fl) = judgeFrame s.line.config.headerPolicy a (fun k => k == .errorReport) f →
        (v = none → f.header.seq = j.frame.header.seq → exec (.decodedFrame ts) s = .next (after { a with
          trailer := some { frame := f, failure := none }, flags := fl,
          provisional := if a.provisional = some .done then some .doneNoted else a.provisional,
          word := some f.header.length, phase := .reclaiming }))
        ∧ (∀ o, v = some o ∨ (v = none ∧ f.header.seq ≠ j.frame.header.seq ∧ o = .replyCorrupt) →
          exec (.decodedFrame ts) s = .next (after { a with
            trailer := some { frame := f, failure := some o }, flags := { fl with trailerBad := true },
            phase := if f.closing = .turn then .reclaiming else .ignoring limit })))
      ∧ (a.phase = .ignoring limit → exec (.decodedFrame ts) s = .next (after { a with
          phase := if f.closing = .turn then .reclaiming else .ignoring limit })))
    ∧ (∀ ts since, s.line.activity = .listening (.noFrame since) → exec (.decodedFrame ts) s = .next s)
    ∧ (∀ (limit : Time) (u : State), s.comes limit →
      u = (s.upTo limit).setLine { s.line with activity := (
        .reclaim (max s.now limit + s.bits s.line.config.turnGuard)) } →
      (a.phase = .receiving limit → exec .talkLimitExpiry s = .next (u.setAttempt
        (some { a with phase := .reclaiming, provisional := some .replyTruncated })))
      ∧ (a.phase = .trailer limit → exec .talkLimitExpiry s = .next (u.setAttempt
        (some { a with phase := .reclaiming, flags := { a.flags with noReturn := true, trailerBad := true } })))
      ∧ (a.phase = .ignoring limit → exec .talkLimitExpiry s = .next (u.setAttempt
        (some { a with phase := .reclaiming, flags := { a.flags with noReturn := true } }))))

/-- RECLAIM_END returns the line to QUIET and ends the attempt with its provisional outcome. The end of an attempt at a
station, in order: the Station Table's result, a good POLL's message, the record's treatment (completion, retry or removal), the
flush a loss or a resynchronisation calls for, the station's occurrences, and a walk. The end of an attempt to broadcast reaches
no station record: the record's treatment, and a walk. -/
def Obligations.EndOfAnAttempt : Prop :=
  (∀ (s : State) (e : Time), s.held = false → s.line.activity = .reclaim e → s.comes e →
    (s.attempt = none →
      exec .reclaimEnd s = .next ((s.upTo e).setLine { s.line with activity := .quiet ⟨max s.now e, 0⟩ }))
    ∧ (∀ a o, s.attempt = some a → a.provisional = some o →
      exec .reclaimEnd s = .next (((s.upTo e).setLine
        { s.line with activity := .quiet ⟨max s.now e, 0⟩ }).endAttempt a o)))
  ∧ (∀ (s u1 u2 u3 u4 u5 : State) (a : Attempt) (o : TxnOutcome) (i : StationId) (r r' : Record)
      (st : Station) (ch : StationChange) (ident : Option Identity) (retryable again : Bool) (payload data : Bytes),
    a.target = .station i → s.inFlight = some r →
    payload = (match a.first with | some j => j.frame.payload | none => []) →
    ident = (if a.kind = .probe ∧ (o = .done ∨ o = .doneNoted) then decodeIdentity payload else none) →
    (st, ch) = (s.station i).applyResult a.kind o ident a.word s.engine.counter →
    u1 = (s.setAttempt none).setStation i st →
    (∀ j, a.kind = .poll → (o = .done ∨ o = .doneNoted) → a.first = some j → j.frame.header.kind = 0x14 →
      ∀ c : Channel, c.val = j.frame.header.channel.toNat →
      u2 = if st.rxMask.getLsbD c.val = true then
          (let q := u1.setInbound { u1.inbound with messages := u1.inbound.messages ++
              [{ station := i, channel := c, payload := j.frame.payload, arrival := s.engine.counter,
                 headerCorrected := decide (j.frame.headerClass = .corrected),
                 headerSuspect := decide (j.frame.headerClass = .uncorrectable) }] }
           if u1.inbound.messages.length + 1 = u1.inbound.threshold then
             q.occur srcInboundThreshold (.count (u1.inbound.messages.length + 1)) else q)
        else u1.setStation i { st with messagesDiscarded := min 65535 (st.messagesDiscarded + 1) }) →
    (¬ (a.kind = .poll ∧ (o = .done ∨ o = .doneNoted) ∧ ∃ j, a.first = some j ∧ j.frame.header.kind = 0x14) →
      u2 = u1) →
    data = (if a.kind = .read ∧ (o = .done ∨ o = .doneNoted) then payload else []) →
    r' = { r with onLine := false, attempts := r.attempts + 1,
                  last := some { outcome := o, flags := a.flags, word := a.word, data := data } } →
    retryable = (o == .noResponse || o == .replyCorrupt || o == .replyCrc || o == .replyTruncated || o == .contention) →
    (again = true ↔ retryable = true ∧ r'.attempts ≤ r.retryBudget ∧ r.cancelRequested = false
      ∧ (∀ x, r.target = .station x → (u2.station x).state = .online ∨ (u2.station x).state = .suspect)
      ∧ (∀ e, r.expiryRound = some e → roundAtOrBefore s.engine.counter e = true)) →
    u3 = (if r.isHost = false then u2.setTxns (u2.txns.filter fun x => x.id != r.id)
      else if again = true then
        u2.setTxns (u2.txns.map fun x => if x.id = r.id then r' else x)
      else (u2.setTxns (u2.txns.filter fun x => x.id != r.id)).queueReport (.completion
        { id := r.id, kind := r.kind, target := r.target, channel := r.channel,
          outcome := if retryable = true ∧ r.cancelRequested = true then .cancelled else o,
          attempts := r'.attempts, round := s.engine.counter, flags := a.flags,
          word := if o = .refused ∨ o = .doneNoted then a.word else none, data := data })) →
    u4 = (match ch with
      | .lost => (u3.completeAll (fun x => decide (x.target = .station i)) .stationLost).setTxns
          ((u3.completeAll (fun x => decide (x.target = .station i)) .stationLost).txns.filter
            fun x => x.isHost || x.onLine || decide (x.target ≠ .station i))
      | .resynced => u3.setTxns (u3.txns.filter
          fun x => x.onLine || decide (x.kind ≠ .poll) || decide (x.target ≠ .station i))
      | _ => u3) →
    u5 = (match ch with
      | .joined => u4.occur (stationSource i 0) .joined
      | .recovered => u4.occur (stationSource i 0) .recovered
      | .suspected => u4.occur (stationSource i 1) (.outcome o)
      | .lost => u4.occur (stationSource i 2) (.outcome o)
      | .resynced => u4.occur (stationSource i 3) (.kind a.kind)
      | .unchanged => u4) →
    s.endAttempt a o = (match a.word with
      | some w => u5.occur (stationSource i 4) (.word w)
      | none => u5).walk)
  ∧ (∀ (s u v : State) (a : Attempt) (o : TxnOutcome) (r r' : Record) (retryable again : Bool) (data : Bytes),
    a.target = .broadcast → s.inFlight = some r →
    data = (if a.kind = .read ∧ (o = .done ∨ o = .doneNoted) then
      (match a.first with | some j => j.frame.payload | none => []) else []) →
    r' = { r with onLine := false, attempts := r.attempts + 1,
                  last := some { outcome := o, flags := a.flags, word := a.word, data := data } } →
    retryable = (o == .noResponse || o == .replyCorrupt || o == .replyCrc || o == .replyTruncated || o == .contention) →
    (again = true ↔ retryable = true ∧ r'.attempts ≤ r.retryBudget ∧ r.cancelRequested = false
      ∧ (∀ x, r.target = .station x → (s.station x).state = .online ∨ (s.station x).state = .suspect)
      ∧ (∀ e, r.expiryRound = some e → roundAtOrBefore s.engine.counter e = true)) →
    u = s.setAttempt none →
    v = (if r.isHost = false then u.setTxns (u.txns.filter fun x => x.id != r.id)
      else if again = true then u.setTxns (u.txns.map fun x => if x.id = r.id then r' else x)
      else (u.setTxns (u.txns.filter fun x => x.id != r.id)).queueReport (.completion
        { id := r.id, kind := r.kind, target := r.target, channel := r.channel,
          outcome := if retryable = true ∧ r.cancelRequested = true then .cancelled else o,
          attempts := r'.attempts, round := s.engine.counter, flags := a.flags,
          word := if o = .refused ∨ o = .doneNoted then a.word else none, data := data })) →
    s.endAttempt a o = v.walk)

/-- What the Station Table makes of an attempt's result, by the station's state: sequence bit, failure count, state, identity,
last report and statistics. That joining and a loss keep probe_due as it is, is the model's choice (log 31). -/
def Obligations.StationResults : Prop :=
  ∀ (st : Station) (k : TxnKind) (o : TxnOutcome) (ident : Option Identity) (word : Option (BitVec 12)) (now : Round)
    (good counted badProbe : Bool) (base : Station),
    good = (o == .done || o == .doneNoted || o == .refused) →
    counted = (o == .noResponse || o == .replyCorrupt || o == .replyCrc || o == .replyTruncated) →
    badProbe = (k == .probe && (o == .refused || ((o == .done || o == .doneNoted) && ident.isNone))) →
    (ident.isSome = true → k = .probe ∧ (o = .done ∨ o = .doneNoted)) →
    base = { st with
      seqNext := if k = .probe then (if o = .done ∨ o = .doneNoted then false else st.seqNext)
        else if k = .send then st.seqNext else if good = true then !st.seqNext else st.seqNext,
      lastReport := match word with | some w => some (w, now) | none => st.lastReport,
      repliesGood := if (good || o == .replyStale) && !badProbe then min 65535 (st.repliesGood + 1) else st.repliesGood,
      failuresTotal := if counted || badProbe then min 65535 (st.failuresTotal + 1) else st.failuresTotal } →
    (st.state = .disabled → st.applyResult k o ident word now
      = ({ base with identity := match ident with | some i => some i | none => st.identity }, .unchanged))
    ∧ (st.state = .offline → k ≠ .probe → st.applyResult k o ident word now = (base, .unchanged))
    ∧ (st.state = .offline → k = .probe → st.applyResult k o ident word now = match ident with
        | some i => ({ base with state := .online, identity := some i, seqNext := false, failures := 0,
                                 lastPollRound := now }, .joined)
        | none => ({ base with lastProbeRound := now }, .unchanged))
    ∧ (st.state = .online → k ≠ .probe → st.applyResult k o ident word now =
        if good = true then ({ base with failures := 0 }, .unchanged)
        else if o = .replyStale then ({ base with state := .resync, failures := 0 }, .resynced)
        else if counted = true then
          if st.failures + 1 = st.suspectAfter then
            ({ base with failures := st.failures + 1, state := .suspect }, .suspected)
          else ({ base with failures := st.failures + 1 }, .unchanged)
        else (base, .unchanged))
    ∧ (st.state = .suspect → k ≠ .probe → st.applyResult k o ident word now =
        if good = true then ({ base with failures := 0, state := .online }, .recovered)
        else if o = .replyStale then ({ base with state := .resync, failures := 0 }, .resynced)
        else if counted = true then
          if st.failures + 1 = st.lostAfter then
            ({ base with state := .offline, failures := 0, seqNext := false, lastProbeRound := now }, .lost)
          else ({ base with failures := st.failures + 1 }, .unchanged)
        else (base, .unchanged))
    ∧ (st.state = .resync → k = .probe → st.applyResult k o ident word now = match ident with
        | some i => ({ base with state := .online, identity := some i, seqNext := false, failures := 0,
                                 lastPollRound := now }, .joined)
        | none =>
          if o = .contention then (base, .unchanged)
          else if st.failures + 1 = st.lostAfter then
            ({ base with state := .offline, failures := 0, seqNext := false, lastProbeRound := now }, .lost)
          else ({ base with failures := st.failures + 1 }, .unchanged))

/-! ### Encoding -/

/-- The header code gives back every header, corrects any one bit of its code word and finds any two; and a station frame
of any header and payload, written out byte by byte with its CRC, decodes to that header and payload. -/
def Obligations.EncodedFramesDecodeBack : Prop :=
  (∀ h : Header, classifyHeader h.codeWord = (.clean, h))
  ∧ (∀ (h : Header) (p : Nat), p < 32 → classifyHeader (h.codeWord ^^^ BitVec.twoPow 32 p) = (.corrected, h))
  ∧ (∀ (h : Header) (p q : Nat), p < 32 → q < 32 → p ≠ q →
    (classifyHeader (h.codeWord ^^^ BitVec.twoPow 32 p ^^^ BitVec.twoPow 32 q)).1 = .uncorrectable)
  ∧ (∀ (h : Header) (payload : Bytes) (check : Bool) (bytes : Bytes) (last : ByteTime) (e : FrameEnd) (c : Closing),
    (last = endPattern ∧ e = .ended ∧ c = .ended) ∨ (last = turnPattern ∧ e = .turn ∧ c = .turn) →
    (h.isLong = true → 1 ≤ payload.length ∧ payload.length ≤ 256) → (h.isLong = false → payload = []) →
    bytes = headerBytes h.codeWord ++ (if h.isLong = true then payload ++ le2 (crc16 payload).toNat else []) →
    collectBytes (bytes.map dataByteTime ++ [last]) = (bytes, e)
    ∧ decodeStationFrame check bytes e =
      { headerClass := .clean, header := h
        byteCount := if h.isLong = true then 6 + payload.length else 4
        overrun := false, payload := payload
        crc := if h.isLong = false then .absent else if check = true then .agrees else .unchecked
        closing := c })

/-! ### What every step keeps -/

/-- The state after a device reset has every property below. -/
def Obligations.ResetIsSafe : Prop :=
  State.reset.portSafe ∧ State.reset.configSafe ∧ tableSafe State.reset.engine.table ∧ State.reset.eventsSafe
  ∧ State.reset.stationsSafe ∧ State.reset.lineSafe ∧ State.reset.listSafe ∧ State.reset.waitingSafe
  ∧ State.reset.inboundSafe

/-- Every step keeps the reply queue at no more than 4 replies, the settings in their ranges, and the Segment Table in index
order with its records in their bounds and its payloads in the store. -/
def Obligations.StepsKeepPortSettingsAndTable : Prop :=
  ∀ s t : State, step s = .next t →
    (s.portSafe → t.portSafe) ∧ (s.configSafe → t.configSafe)
    ∧ (tableSafe s.engine.table → tableSafe t.engine.table)

/-- Every step keeps the bounds of the event sources and of the Report Queue: latched exactly with a count, at most one EVENT
report per source and only of latched ones, consecutive sequence numbers; with the admission count this bounds the queue by
88 reports. -/
def Obligations.StepsKeepEventsAndReports : Prop :=
  (∀ s t : State, s.eventsSafe → step s = .next t → t.eventsSafe)
  ∧ (∀ s : State, s.eventsSafe → s.admission ≤ 40 → s.reports.queue.length ≤ 88)

/-- Every step keeps each station's failure count in the bounds of its state, its configuration in its ranges, and an
identity at every station that has joined. -/
def Obligations.StepsKeepStations : Prop :=
  ∀ s t : State, s.stationsSafe → step s = .next t → t.stationsSafe

/-- Every step keeps the line, the engine and the turn in step: OFF exactly in STOPPED and HALTED, QUIET in SETTLING, an open
gap in RUNNING only, and the attempt's phase with its line state. -/
def Obligations.StepsKeepLineEngineAndTurn : Prop :=
  ∀ s t : State, s.lineSafe → step s = .next t → t.lineSafe

/-- Every step keeps the Transaction List: ids unique, one internal record a station, at most 40 admitted, attempts within the
budget, one ON_LINE record exactly while its attempt is on the line, and no PENDING record whose station is in a state in
which it cannot wait; and the list never holds more than 48 records. -/
def Obligations.StepsKeepTheTransactionList : Prop :=
  (∀ s t : State, s.listSafe → s.waitingSafe → step s = .next t → t.listSafe ∧ t.waitingSafe)
  ∧ (∀ s : State, s.listSafe → s.txns.length ≤ 48)

/-- Every step keeps the Inbound Queue at no more than 16 messages and 2048 bytes, and the room of the POLL on the line. -/
def Obligations.StepsKeepTheInboundQueue : Prop :=
  ∀ s t : State, s.inboundSafe → step s = .next t → t.inboundSafe
end

