-- ==== Sys2Proof/Laws/State.lean ====
section
/-! SUPPORT. One lemma per field and update of the state: what a setter writes and what it leaves. -/

namespace Sys2Proof.Machine

/-! ### setNow -/

@[simp] theorem State.setNow_now (s : State) (v : Time) : (s.setNow v).now = v := rfl
@[simp] theorem State.setNow_pending (s : State) (v : Time) : (s.setNow v).pending = s.pending := rfl
@[simp] theorem State.setNow_hold (s : State) (v : Time) : (s.setNow v).hold = s.hold := rfl
@[simp] theorem State.setNow_port (s : State) (v : Time) : (s.setNow v).port = s.port := rfl
@[simp] theorem State.setNow_line (s : State) (v : Time) : (s.setNow v).line = s.line := rfl
@[simp] theorem State.setNow_engine (s : State) (v : Time) : (s.setNow v).engine = s.engine := rfl
@[simp] theorem State.setNow_txns (s : State) (v : Time) : (s.setNow v).txns = s.txns := rfl
@[simp] theorem State.setNow_sched (s : State) (v : Time) : (s.setNow v).sched = s.sched := rfl
@[simp] theorem State.setNow_attempt (s : State) (v : Time) : (s.setNow v).attempt = s.attempt := rfl
@[simp] theorem State.setNow_stations (s : State) (v : Time) : (s.setNow v).stations = s.stations := rfl
@[simp] theorem State.setNow_inbound (s : State) (v : Time) : (s.setNow v).inbound = s.inbound := rfl
@[simp] theorem State.setNow_reports (s : State) (v : Time) : (s.setNow v).reports = s.reports := rfl
@[simp] theorem State.setNow_events (s : State) (v : Time) : (s.setNow v).events = s.events := rfl
@[simp] theorem State.setNow_self (s : State) : s.setNow s.now = s := rfl
@[simp] theorem State.setNow_setNow (s : State) (v w : Time) :
    (s.setNow v).setNow w = s.setNow w := rfl

/-! ### setPending -/

@[simp] theorem State.setPending_now (s : State) (v : List Instr) : (s.setPending v).now = s.now := rfl
@[simp] theorem State.setPending_pending (s : State) (v : List Instr) : (s.setPending v).pending = v := rfl
@[simp] theorem State.setPending_hold (s : State) (v : List Instr) : (s.setPending v).hold = s.hold := rfl
@[simp] theorem State.setPending_port (s : State) (v : List Instr) : (s.setPending v).port = s.port := rfl
@[simp] theorem State.setPending_line (s : State) (v : List Instr) : (s.setPending v).line = s.line := rfl
@[simp] theorem State.setPending_engine (s : State) (v : List Instr) : (s.setPending v).engine = s.engine := rfl
@[simp] theorem State.setPending_txns (s : State) (v : List Instr) : (s.setPending v).txns = s.txns := rfl
@[simp] theorem State.setPending_sched (s : State) (v : List Instr) : (s.setPending v).sched = s.sched := rfl
@[simp] theorem State.setPending_attempt (s : State) (v : List Instr) : (s.setPending v).attempt = s.attempt := rfl
@[simp] theorem State.setPending_stations (s : State) (v : List Instr) : (s.setPending v).stations = s.stations := rfl
@[simp] theorem State.setPending_inbound (s : State) (v : List Instr) : (s.setPending v).inbound = s.inbound := rfl
@[simp] theorem State.setPending_reports (s : State) (v : List Instr) : (s.setPending v).reports = s.reports := rfl
@[simp] theorem State.setPending_events (s : State) (v : List Instr) : (s.setPending v).events = s.events := rfl
@[simp] theorem State.setPending_self (s : State) : s.setPending s.pending = s := rfl
@[simp] theorem State.setPending_setPending (s : State) (v w : List Instr) :
    (s.setPending v).setPending w = s.setPending w := rfl

/-! ### setHold -/

@[simp] theorem State.setHold_now (s : State) (v : Hold) : (s.setHold v).now = s.now := rfl
@[simp] theorem State.setHold_pending (s : State) (v : Hold) : (s.setHold v).pending = s.pending := rfl
@[simp] theorem State.setHold_hold (s : State) (v : Hold) : (s.setHold v).hold = v := rfl
@[simp] theorem State.setHold_port (s : State) (v : Hold) : (s.setHold v).port = s.port := rfl
@[simp] theorem State.setHold_line (s : State) (v : Hold) : (s.setHold v).line = s.line := rfl
@[simp] theorem State.setHold_engine (s : State) (v : Hold) : (s.setHold v).engine = s.engine := rfl
@[simp] theorem State.setHold_txns (s : State) (v : Hold) : (s.setHold v).txns = s.txns := rfl
@[simp] theorem State.setHold_sched (s : State) (v : Hold) : (s.setHold v).sched = s.sched := rfl
@[simp] theorem State.setHold_attempt (s : State) (v : Hold) : (s.setHold v).attempt = s.attempt := rfl
@[simp] theorem State.setHold_stations (s : State) (v : Hold) : (s.setHold v).stations = s.stations := rfl
@[simp] theorem State.setHold_inbound (s : State) (v : Hold) : (s.setHold v).inbound = s.inbound := rfl
@[simp] theorem State.setHold_reports (s : State) (v : Hold) : (s.setHold v).reports = s.reports := rfl
@[simp] theorem State.setHold_events (s : State) (v : Hold) : (s.setHold v).events = s.events := rfl
@[simp] theorem State.setHold_self (s : State) : s.setHold s.hold = s := rfl
@[simp] theorem State.setHold_setHold (s : State) (v w : Hold) :
    (s.setHold v).setHold w = s.setHold w := rfl

/-! ### setPort -/

@[simp] theorem State.setPort_now (s : State) (v : HostPort) : (s.setPort v).now = s.now := rfl
@[simp] theorem State.setPort_pending (s : State) (v : HostPort) : (s.setPort v).pending = s.pending := rfl
@[simp] theorem State.setPort_hold (s : State) (v : HostPort) : (s.setPort v).hold = s.hold := rfl
@[simp] theorem State.setPort_port (s : State) (v : HostPort) : (s.setPort v).port = v := rfl
@[simp] theorem State.setPort_line (s : State) (v : HostPort) : (s.setPort v).line = s.line := rfl
@[simp] theorem State.setPort_engine (s : State) (v : HostPort) : (s.setPort v).engine = s.engine := rfl
@[simp] theorem State.setPort_txns (s : State) (v : HostPort) : (s.setPort v).txns = s.txns := rfl
@[simp] theorem State.setPort_sched (s : State) (v : HostPort) : (s.setPort v).sched = s.sched := rfl
@[simp] theorem State.setPort_attempt (s : State) (v : HostPort) : (s.setPort v).attempt = s.attempt := rfl
@[simp] theorem State.setPort_stations (s : State) (v : HostPort) : (s.setPort v).stations = s.stations := rfl
@[simp] theorem State.setPort_inbound (s : State) (v : HostPort) : (s.setPort v).inbound = s.inbound := rfl
@[simp] theorem State.setPort_reports (s : State) (v : HostPort) : (s.setPort v).reports = s.reports := rfl
@[simp] theorem State.setPort_events (s : State) (v : HostPort) : (s.setPort v).events = s.events := rfl
@[simp] theorem State.setPort_self (s : State) : s.setPort s.port = s := rfl
@[simp] theorem State.setPort_setPort (s : State) (v w : HostPort) :
    (s.setPort v).setPort w = s.setPort w := rfl

/-! ### setLine -/

@[simp] theorem State.setLine_now (s : State) (v : LineIface) : (s.setLine v).now = s.now := rfl
@[simp] theorem State.setLine_pending (s : State) (v : LineIface) : (s.setLine v).pending = s.pending := rfl
@[simp] theorem State.setLine_hold (s : State) (v : LineIface) : (s.setLine v).hold = s.hold := rfl
@[simp] theorem State.setLine_port (s : State) (v : LineIface) : (s.setLine v).port = s.port := rfl
@[simp] theorem State.setLine_line (s : State) (v : LineIface) : (s.setLine v).line = v := rfl
@[simp] theorem State.setLine_engine (s : State) (v : LineIface) : (s.setLine v).engine = s.engine := rfl
@[simp] theorem State.setLine_txns (s : State) (v : LineIface) : (s.setLine v).txns = s.txns := rfl
@[simp] theorem State.setLine_sched (s : State) (v : LineIface) : (s.setLine v).sched = s.sched := rfl
@[simp] theorem State.setLine_attempt (s : State) (v : LineIface) : (s.setLine v).attempt = s.attempt := rfl
@[simp] theorem State.setLine_stations (s : State) (v : LineIface) : (s.setLine v).stations = s.stations := rfl
@[simp] theorem State.setLine_inbound (s : State) (v : LineIface) : (s.setLine v).inbound = s.inbound := rfl
@[simp] theorem State.setLine_reports (s : State) (v : LineIface) : (s.setLine v).reports = s.reports := rfl
@[simp] theorem State.setLine_events (s : State) (v : LineIface) : (s.setLine v).events = s.events := rfl
@[simp] theorem State.setLine_self (s : State) : s.setLine s.line = s := rfl
@[simp] theorem State.setLine_setLine (s : State) (v w : LineIface) :
    (s.setLine v).setLine w = s.setLine w := rfl

/-! ### setEngine -/

@[simp] theorem State.setEngine_now (s : State) (v : Engine) : (s.setEngine v).now = s.now := rfl
@[simp] theorem State.setEngine_pending (s : State) (v : Engine) : (s.setEngine v).pending = s.pending := rfl
@[simp] theorem State.setEngine_hold (s : State) (v : Engine) : (s.setEngine v).hold = s.hold := rfl
@[simp] theorem State.setEngine_port (s : State) (v : Engine) : (s.setEngine v).port = s.port := rfl
@[simp] theorem State.setEngine_line (s : State) (v : Engine) : (s.setEngine v).line = s.line := rfl
@[simp] theorem State.setEngine_engine (s : State) (v : Engine) : (s.setEngine v).engine = v := rfl
@[simp] theorem State.setEngine_txns (s : State) (v : Engine) : (s.setEngine v).txns = s.txns := rfl
@[simp] theorem State.setEngine_sched (s : State) (v : Engine) : (s.setEngine v).sched = s.sched := rfl
@[simp] theorem State.setEngine_attempt (s : State) (v : Engine) : (s.setEngine v).attempt = s.attempt := rfl
@[simp] theorem State.setEngine_stations (s : State) (v : Engine) : (s.setEngine v).stations = s.stations := rfl
@[simp] theorem State.setEngine_inbound (s : State) (v : Engine) : (s.setEngine v).inbound = s.inbound := rfl
@[simp] theorem State.setEngine_reports (s : State) (v : Engine) : (s.setEngine v).reports = s.reports := rfl
@[simp] theorem State.setEngine_events (s : State) (v : Engine) : (s.setEngine v).events = s.events := rfl
@[simp] theorem State.setEngine_self (s : State) : s.setEngine s.engine = s := rfl
@[simp] theorem State.setEngine_setEngine (s : State) (v w : Engine) :
    (s.setEngine v).setEngine w = s.setEngine w := rfl

/-! ### setTxns -/

@[simp] theorem State.setTxns_now (s : State) (v : List Record) : (s.setTxns v).now = s.now := rfl
@[simp] theorem State.setTxns_pending (s : State) (v : List Record) : (s.setTxns v).pending = s.pending := rfl
@[simp] theorem State.setTxns_hold (s : State) (v : List Record) : (s.setTxns v).hold = s.hold := rfl
@[simp] theorem State.setTxns_port (s : State) (v : List Record) : (s.setTxns v).port = s.port := rfl
@[simp] theorem State.setTxns_line (s : State) (v : List Record) : (s.setTxns v).line = s.line := rfl
@[simp] theorem State.setTxns_engine (s : State) (v : List Record) : (s.setTxns v).engine = s.engine := rfl
@[simp] theorem State.setTxns_txns (s : State) (v : List Record) : (s.setTxns v).txns = v := rfl
@[simp] theorem State.setTxns_sched (s : State) (v : List Record) : (s.setTxns v).sched = s.sched := rfl
@[simp] theorem State.setTxns_attempt (s : State) (v : List Record) : (s.setTxns v).attempt = s.attempt := rfl
@[simp] theorem State.setTxns_stations (s : State) (v : List Record) : (s.setTxns v).stations = s.stations := rfl
@[simp] theorem State.setTxns_inbound (s : State) (v : List Record) : (s.setTxns v).inbound = s.inbound := rfl
@[simp] theorem State.setTxns_reports (s : State) (v : List Record) : (s.setTxns v).reports = s.reports := rfl
@[simp] theorem State.setTxns_events (s : State) (v : List Record) : (s.setTxns v).events = s.events := rfl
@[simp] theorem State.setTxns_self (s : State) : s.setTxns s.txns = s := rfl
@[simp] theorem State.setTxns_setTxns (s : State) (v w : List Record) :
    (s.setTxns v).setTxns w = s.setTxns w := rfl

/-! ### setSched -/

@[simp] theorem State.setSched_now (s : State) (v : Scheduler) : (s.setSched v).now = s.now := rfl
@[simp] theorem State.setSched_pending (s : State) (v : Scheduler) : (s.setSched v).pending = s.pending := rfl
@[simp] theorem State.setSched_hold (s : State) (v : Scheduler) : (s.setSched v).hold = s.hold := rfl
@[simp] theorem State.setSched_port (s : State) (v : Scheduler) : (s.setSched v).port = s.port := rfl
@[simp] theorem State.setSched_line (s : State) (v : Scheduler) : (s.setSched v).line = s.line := rfl
@[simp] theorem State.setSched_engine (s : State) (v : Scheduler) : (s.setSched v).engine = s.engine := rfl
@[simp] theorem State.setSched_txns (s : State) (v : Scheduler) : (s.setSched v).txns = s.txns := rfl
@[simp] theorem State.setSched_sched (s : State) (v : Scheduler) : (s.setSched v).sched = v := rfl
@[simp] theorem State.setSched_attempt (s : State) (v : Scheduler) : (s.setSched v).attempt = s.attempt := rfl
@[simp] theorem State.setSched_stations (s : State) (v : Scheduler) : (s.setSched v).stations = s.stations := rfl
@[simp] theorem State.setSched_inbound (s : State) (v : Scheduler) : (s.setSched v).inbound = s.inbound := rfl
@[simp] theorem State.setSched_reports (s : State) (v : Scheduler) : (s.setSched v).reports = s.reports := rfl
@[simp] theorem State.setSched_events (s : State) (v : Scheduler) : (s.setSched v).events = s.events := rfl
@[simp] theorem State.setSched_self (s : State) : s.setSched s.sched = s := rfl
@[simp] theorem State.setSched_setSched (s : State) (v w : Scheduler) :
    (s.setSched v).setSched w = s.setSched w := rfl

/-! ### setAttempt -/

@[simp] theorem State.setAttempt_now (s : State) (v : Option Attempt) : (s.setAttempt v).now = s.now := rfl
@[simp] theorem State.setAttempt_pending (s : State) (v : Option Attempt) : (s.setAttempt v).pending = s.pending := rfl
@[simp] theorem State.setAttempt_hold (s : State) (v : Option Attempt) : (s.setAttempt v).hold = s.hold := rfl
@[simp] theorem State.setAttempt_port (s : State) (v : Option Attempt) : (s.setAttempt v).port = s.port := rfl
@[simp] theorem State.setAttempt_line (s : State) (v : Option Attempt) : (s.setAttempt v).line = s.line := rfl
@[simp] theorem State.setAttempt_engine (s : State) (v : Option Attempt) : (s.setAttempt v).engine = s.engine := rfl
@[simp] theorem State.setAttempt_txns (s : State) (v : Option Attempt) : (s.setAttempt v).txns = s.txns := rfl
@[simp] theorem State.setAttempt_sched (s : State) (v : Option Attempt) : (s.setAttempt v).sched = s.sched := rfl
@[simp] theorem State.setAttempt_attempt (s : State) (v : Option Attempt) : (s.setAttempt v).attempt = v := rfl
@[simp] theorem State.setAttempt_stations (s : State) (v : Option Attempt) : (s.setAttempt v).stations = s.stations := rfl
@[simp] theorem State.setAttempt_inbound (s : State) (v : Option Attempt) : (s.setAttempt v).inbound = s.inbound := rfl
@[simp] theorem State.setAttempt_reports (s : State) (v : Option Attempt) : (s.setAttempt v).reports = s.reports := rfl
@[simp] theorem State.setAttempt_events (s : State) (v : Option Attempt) : (s.setAttempt v).events = s.events := rfl
@[simp] theorem State.setAttempt_self (s : State) : s.setAttempt s.attempt = s := rfl
@[simp] theorem State.setAttempt_setAttempt (s : State) (v w : Option Attempt) :
    (s.setAttempt v).setAttempt w = s.setAttempt w := rfl

/-! ### setStations -/

@[simp] theorem State.setStations_now (s : State) (v : Vector Station 8) : (s.setStations v).now = s.now := rfl
@[simp] theorem State.setStations_pending (s : State) (v : Vector Station 8) : (s.setStations v).pending = s.pending := rfl
@[simp] theorem State.setStations_hold (s : State) (v : Vector Station 8) : (s.setStations v).hold = s.hold := rfl
@[simp] theorem State.setStations_port (s : State) (v : Vector Station 8) : (s.setStations v).port = s.port := rfl
@[simp] theorem State.setStations_line (s : State) (v : Vector Station 8) : (s.setStations v).line = s.line := rfl
@[simp] theorem State.setStations_engine (s : State) (v : Vector Station 8) : (s.setStations v).engine = s.engine := rfl
@[simp] theorem State.setStations_txns (s : State) (v : Vector Station 8) : (s.setStations v).txns = s.txns := rfl
@[simp] theorem State.setStations_sched (s : State) (v : Vector Station 8) : (s.setStations v).sched = s.sched := rfl
@[simp] theorem State.setStations_attempt (s : State) (v : Vector Station 8) : (s.setStations v).attempt = s.attempt := rfl
@[simp] theorem State.setStations_stations (s : State) (v : Vector Station 8) : (s.setStations v).stations = v := rfl
@[simp] theorem State.setStations_inbound (s : State) (v : Vector Station 8) : (s.setStations v).inbound = s.inbound := rfl
@[simp] theorem State.setStations_reports (s : State) (v : Vector Station 8) : (s.setStations v).reports = s.reports := rfl
@[simp] theorem State.setStations_events (s : State) (v : Vector Station 8) : (s.setStations v).events = s.events := rfl
@[simp] theorem State.setStations_self (s : State) : s.setStations s.stations = s := rfl
@[simp] theorem State.setStations_setStations (s : State) (v w : Vector Station 8) :
    (s.setStations v).setStations w = s.setStations w := rfl

/-! ### setInbound -/

@[simp] theorem State.setInbound_now (s : State) (v : Inbound) : (s.setInbound v).now = s.now := rfl
@[simp] theorem State.setInbound_pending (s : State) (v : Inbound) : (s.setInbound v).pending = s.pending := rfl
@[simp] theorem State.setInbound_hold (s : State) (v : Inbound) : (s.setInbound v).hold = s.hold := rfl
@[simp] theorem State.setInbound_port (s : State) (v : Inbound) : (s.setInbound v).port = s.port := rfl
@[simp] theorem State.setInbound_line (s : State) (v : Inbound) : (s.setInbound v).line = s.line := rfl
@[simp] theorem State.setInbound_engine (s : State) (v : Inbound) : (s.setInbound v).engine = s.engine := rfl
@[simp] theorem State.setInbound_txns (s : State) (v : Inbound) : (s.setInbound v).txns = s.txns := rfl
@[simp] theorem State.setInbound_sched (s : State) (v : Inbound) : (s.setInbound v).sched = s.sched := rfl
@[simp] theorem State.setInbound_attempt (s : State) (v : Inbound) : (s.setInbound v).attempt = s.attempt := rfl
@[simp] theorem State.setInbound_stations (s : State) (v : Inbound) : (s.setInbound v).stations = s.stations := rfl
@[simp] theorem State.setInbound_inbound (s : State) (v : Inbound) : (s.setInbound v).inbound = v := rfl
@[simp] theorem State.setInbound_reports (s : State) (v : Inbound) : (s.setInbound v).reports = s.reports := rfl
@[simp] theorem State.setInbound_events (s : State) (v : Inbound) : (s.setInbound v).events = s.events := rfl
@[simp] theorem State.setInbound_self (s : State) : s.setInbound s.inbound = s := rfl
@[simp] theorem State.setInbound_setInbound (s : State) (v w : Inbound) :
    (s.setInbound v).setInbound w = s.setInbound w := rfl

/-! ### setReports -/

@[simp] theorem State.setReports_now (s : State) (v : ReportQueue) : (s.setReports v).now = s.now := rfl
@[simp] theorem State.setReports_pending (s : State) (v : ReportQueue) : (s.setReports v).pending = s.pending := rfl
@[simp] theorem State.setReports_hold (s : State) (v : ReportQueue) : (s.setReports v).hold = s.hold := rfl
@[simp] theorem State.setReports_port (s : State) (v : ReportQueue) : (s.setReports v).port = s.port := rfl
@[simp] theorem State.setReports_line (s : State) (v : ReportQueue) : (s.setReports v).line = s.line := rfl
@[simp] theorem State.setReports_engine (s : State) (v : ReportQueue) : (s.setReports v).engine = s.engine := rfl
@[simp] theorem State.setReports_txns (s : State) (v : ReportQueue) : (s.setReports v).txns = s.txns := rfl
@[simp] theorem State.setReports_sched (s : State) (v : ReportQueue) : (s.setReports v).sched = s.sched := rfl
@[simp] theorem State.setReports_attempt (s : State) (v : ReportQueue) : (s.setReports v).attempt = s.attempt := rfl
@[simp] theorem State.setReports_stations (s : State) (v : ReportQueue) : (s.setReports v).stations = s.stations := rfl
@[simp] theorem State.setReports_inbound (s : State) (v : ReportQueue) : (s.setReports v).inbound = s.inbound := rfl
@[simp] theorem State.setReports_reports (s : State) (v : ReportQueue) : (s.setReports v).reports = v := rfl
@[simp] theorem State.setReports_events (s : State) (v : ReportQueue) : (s.setReports v).events = s.events := rfl
@[simp] theorem State.setReports_self (s : State) : s.setReports s.reports = s := rfl
@[simp] theorem State.setReports_setReports (s : State) (v w : ReportQueue) :
    (s.setReports v).setReports w = s.setReports w := rfl

/-! ### setEvents -/

@[simp] theorem State.setEvents_now (s : State) (v : Vector Source 48) : (s.setEvents v).now = s.now := rfl
@[simp] theorem State.setEvents_pending (s : State) (v : Vector Source 48) : (s.setEvents v).pending = s.pending := rfl
@[simp] theorem State.setEvents_hold (s : State) (v : Vector Source 48) : (s.setEvents v).hold = s.hold := rfl
@[simp] theorem State.setEvents_port (s : State) (v : Vector Source 48) : (s.setEvents v).port = s.port := rfl
@[simp] theorem State.setEvents_line (s : State) (v : Vector Source 48) : (s.setEvents v).line = s.line := rfl
@[simp] theorem State.setEvents_engine (s : State) (v : Vector Source 48) : (s.setEvents v).engine = s.engine := rfl
@[simp] theorem State.setEvents_txns (s : State) (v : Vector Source 48) : (s.setEvents v).txns = s.txns := rfl
@[simp] theorem State.setEvents_sched (s : State) (v : Vector Source 48) : (s.setEvents v).sched = s.sched := rfl
@[simp] theorem State.setEvents_attempt (s : State) (v : Vector Source 48) : (s.setEvents v).attempt = s.attempt := rfl
@[simp] theorem State.setEvents_stations (s : State) (v : Vector Source 48) : (s.setEvents v).stations = s.stations := rfl
@[simp] theorem State.setEvents_inbound (s : State) (v : Vector Source 48) : (s.setEvents v).inbound = s.inbound := rfl
@[simp] theorem State.setEvents_reports (s : State) (v : Vector Source 48) : (s.setEvents v).reports = s.reports := rfl
@[simp] theorem State.setEvents_events (s : State) (v : Vector Source 48) : (s.setEvents v).events = v := rfl
@[simp] theorem State.setEvents_self (s : State) : s.setEvents s.events = s := rfl
@[simp] theorem State.setEvents_setEvents (s : State) (v w : Vector Source 48) :
    (s.setEvents v).setEvents w = s.setEvents w := rfl

/-- Two states with equal fields are equal, in a form that names each field. -/
theorem State.eq_of_fields {s t : State} (hnow : s.now = t.now) (hpending : s.pending = t.pending)
    (hhold : s.hold = t.hold) (hport : s.port = t.port) (hline : s.line = t.line)
    (hengine : s.engine = t.engine) (htxns : s.txns = t.txns) (hsched : s.sched = t.sched)
    (hattempt : s.attempt = t.attempt) (hstations : s.stations = t.stations)
    (hinbound : s.inbound = t.inbound) (hreports : s.reports = t.reports) (hevents : s.events = t.events) : s
    = t := by
  cases s; cases t; simp_all

end Sys2Proof.Machine
end

