-- ==== Sys2Proof/Laws/OpsFrame.lean ====
section
/-! SUPPORT. The frame of the shared operations of Flags and Ops: every field of the state that the operation leaves as it was. -/

namespace Sys2Proof.Machine

/-! ### queueReport: writes reports -/

@[simp] theorem State.queueReport_now (s : State) (b : ReportBody) :
    (s.queueReport b).now = s.now := rfl
@[simp] theorem State.queueReport_pending (s : State) (b : ReportBody) :
    (s.queueReport b).pending = s.pending := rfl
@[simp] theorem State.queueReport_hold (s : State) (b : ReportBody) :
    (s.queueReport b).hold = s.hold := rfl
@[simp] theorem State.queueReport_port (s : State) (b : ReportBody) :
    (s.queueReport b).port = s.port := rfl
@[simp] theorem State.queueReport_line (s : State) (b : ReportBody) :
    (s.queueReport b).line = s.line := rfl
@[simp] theorem State.queueReport_engine (s : State) (b : ReportBody) :
    (s.queueReport b).engine = s.engine := rfl
@[simp] theorem State.queueReport_txns (s : State) (b : ReportBody) :
    (s.queueReport b).txns = s.txns := rfl
@[simp] theorem State.queueReport_sched (s : State) (b : ReportBody) :
    (s.queueReport b).sched = s.sched := rfl
@[simp] theorem State.queueReport_attempt (s : State) (b : ReportBody) :
    (s.queueReport b).attempt = s.attempt := rfl
@[simp] theorem State.queueReport_stations (s : State) (b : ReportBody) :
    (s.queueReport b).stations = s.stations := rfl
@[simp] theorem State.queueReport_inbound (s : State) (b : ReportBody) :
    (s.queueReport b).inbound = s.inbound := rfl
@[simp] theorem State.queueReport_events (s : State) (b : ReportBody) :
    (s.queueReport b).events = s.events := rfl

/-! ### setSource: writes events -/

@[simp] theorem State.setSource_now (s : State) (src : SourceId) (v : Source) :
    (s.setSource src v).now = s.now := rfl
@[simp] theorem State.setSource_pending (s : State) (src : SourceId) (v : Source) :
    (s.setSource src v).pending = s.pending := rfl
@[simp] theorem State.setSource_hold (s : State) (src : SourceId) (v : Source) :
    (s.setSource src v).hold = s.hold := rfl
@[simp] theorem State.setSource_port (s : State) (src : SourceId) (v : Source) :
    (s.setSource src v).port = s.port := rfl
@[simp] theorem State.setSource_line (s : State) (src : SourceId) (v : Source) :
    (s.setSource src v).line = s.line := rfl
@[simp] theorem State.setSource_engine (s : State) (src : SourceId) (v : Source) :
    (s.setSource src v).engine = s.engine := rfl
@[simp] theorem State.setSource_txns (s : State) (src : SourceId) (v : Source) :
    (s.setSource src v).txns = s.txns := rfl
@[simp] theorem State.setSource_sched (s : State) (src : SourceId) (v : Source) :
    (s.setSource src v).sched = s.sched := rfl
@[simp] theorem State.setSource_attempt (s : State) (src : SourceId) (v : Source) :
    (s.setSource src v).attempt = s.attempt := rfl
@[simp] theorem State.setSource_stations (s : State) (src : SourceId) (v : Source) :
    (s.setSource src v).stations = s.stations := rfl
@[simp] theorem State.setSource_inbound (s : State) (src : SourceId) (v : Source) :
    (s.setSource src v).inbound = s.inbound := rfl
@[simp] theorem State.setSource_reports (s : State) (src : SourceId) (v : Source) :
    (s.setSource src v).reports = s.reports := rfl

/-! ### occur: writes reports, events -/

@[simp] theorem State.occur_now (s : State) (src : SourceId) (d : Detail) :
    (s.occur src d).now = s.now := by
  simp only [State.occur]; split <;> rfl
@[simp] theorem State.occur_pending (s : State) (src : SourceId) (d : Detail) :
    (s.occur src d).pending = s.pending := by
  simp only [State.occur]; split <;> rfl
@[simp] theorem State.occur_hold (s : State) (src : SourceId) (d : Detail) :
    (s.occur src d).hold = s.hold := by
  simp only [State.occur]; split <;> rfl
@[simp] theorem State.occur_port (s : State) (src : SourceId) (d : Detail) :
    (s.occur src d).port = s.port := by
  simp only [State.occur]; split <;> rfl
@[simp] theorem State.occur_line (s : State) (src : SourceId) (d : Detail) :
    (s.occur src d).line = s.line := by
  simp only [State.occur]; split <;> rfl
@[simp] theorem State.occur_engine (s : State) (src : SourceId) (d : Detail) :
    (s.occur src d).engine = s.engine := by
  simp only [State.occur]; split <;> rfl
@[simp] theorem State.occur_txns (s : State) (src : SourceId) (d : Detail) :
    (s.occur src d).txns = s.txns := by
  simp only [State.occur]; split <;> rfl
@[simp] theorem State.occur_sched (s : State) (src : SourceId) (d : Detail) :
    (s.occur src d).sched = s.sched := by
  simp only [State.occur]; split <;> rfl
@[simp] theorem State.occur_attempt (s : State) (src : SourceId) (d : Detail) :
    (s.occur src d).attempt = s.attempt := by
  simp only [State.occur]; split <;> rfl
@[simp] theorem State.occur_stations (s : State) (src : SourceId) (d : Detail) :
    (s.occur src d).stations = s.stations := by
  simp only [State.occur]; split <;> rfl
@[simp] theorem State.occur_inbound (s : State) (src : SourceId) (d : Detail) :
    (s.occur src d).inbound = s.inbound := by
  simp only [State.occur]; split <;> rfl

/-! ### setActivity: writes line -/

@[simp] theorem State.setActivity_now (s : State) (a : LineActivity) :
    (s.setActivity a).now = s.now := rfl
@[simp] theorem State.setActivity_pending (s : State) (a : LineActivity) :
    (s.setActivity a).pending = s.pending := rfl
@[simp] theorem State.setActivity_hold (s : State) (a : LineActivity) :
    (s.setActivity a).hold = s.hold := rfl
@[simp] theorem State.setActivity_port (s : State) (a : LineActivity) :
    (s.setActivity a).port = s.port := rfl
@[simp] theorem State.setActivity_engine (s : State) (a : LineActivity) :
    (s.setActivity a).engine = s.engine := rfl
@[simp] theorem State.setActivity_txns (s : State) (a : LineActivity) :
    (s.setActivity a).txns = s.txns := rfl
@[simp] theorem State.setActivity_sched (s : State) (a : LineActivity) :
    (s.setActivity a).sched = s.sched := rfl
@[simp] theorem State.setActivity_attempt (s : State) (a : LineActivity) :
    (s.setActivity a).attempt = s.attempt := rfl
@[simp] theorem State.setActivity_stations (s : State) (a : LineActivity) :
    (s.setActivity a).stations = s.stations := rfl
@[simp] theorem State.setActivity_inbound (s : State) (a : LineActivity) :
    (s.setActivity a).inbound = s.inbound := rfl
@[simp] theorem State.setActivity_reports (s : State) (a : LineActivity) :
    (s.setActivity a).reports = s.reports := rfl
@[simp] theorem State.setActivity_events (s : State) (a : LineActivity) :
    (s.setActivity a).events = s.events := rfl

/-! ### goQuiet: writes line -/

@[simp] theorem State.goQuiet_now (s : State) :
    (s.goQuiet).now = s.now := rfl
@[simp] theorem State.goQuiet_pending (s : State) :
    (s.goQuiet).pending = s.pending := rfl
@[simp] theorem State.goQuiet_hold (s : State) :
    (s.goQuiet).hold = s.hold := rfl
@[simp] theorem State.goQuiet_port (s : State) :
    (s.goQuiet).port = s.port := rfl
@[simp] theorem State.goQuiet_engine (s : State) :
    (s.goQuiet).engine = s.engine := rfl
@[simp] theorem State.goQuiet_txns (s : State) :
    (s.goQuiet).txns = s.txns := rfl
@[simp] theorem State.goQuiet_sched (s : State) :
    (s.goQuiet).sched = s.sched := rfl
@[simp] theorem State.goQuiet_attempt (s : State) :
    (s.goQuiet).attempt = s.attempt := rfl
@[simp] theorem State.goQuiet_stations (s : State) :
    (s.goQuiet).stations = s.stations := rfl
@[simp] theorem State.goQuiet_inbound (s : State) :
    (s.goQuiet).inbound = s.inbound := rfl
@[simp] theorem State.goQuiet_reports (s : State) :
    (s.goQuiet).reports = s.reports := rfl
@[simp] theorem State.goQuiet_events (s : State) :
    (s.goQuiet).events = s.events := rfl

/-! ### goReclaim: writes line -/

@[simp] theorem State.goReclaim_now (s : State) :
    (s.goReclaim).now = s.now := rfl
@[simp] theorem State.goReclaim_pending (s : State) :
    (s.goReclaim).pending = s.pending := rfl
@[simp] theorem State.goReclaim_hold (s : State) :
    (s.goReclaim).hold = s.hold := rfl
@[simp] theorem State.goReclaim_port (s : State) :
    (s.goReclaim).port = s.port := rfl
@[simp] theorem State.goReclaim_engine (s : State) :
    (s.goReclaim).engine = s.engine := rfl
@[simp] theorem State.goReclaim_txns (s : State) :
    (s.goReclaim).txns = s.txns := rfl
@[simp] theorem State.goReclaim_sched (s : State) :
    (s.goReclaim).sched = s.sched := rfl
@[simp] theorem State.goReclaim_attempt (s : State) :
    (s.goReclaim).attempt = s.attempt := rfl
@[simp] theorem State.goReclaim_stations (s : State) :
    (s.goReclaim).stations = s.stations := rfl
@[simp] theorem State.goReclaim_inbound (s : State) :
    (s.goReclaim).inbound = s.inbound := rfl
@[simp] theorem State.goReclaim_reports (s : State) :
    (s.goReclaim).reports = s.reports := rfl
@[simp] theorem State.goReclaim_events (s : State) :
    (s.goReclaim).events = s.events := rfl

/-! ### setStation: writes stations -/

@[simp] theorem State.setStation_now (s : State) (i : StationId) (v : Station) :
    (s.setStation i v).now = s.now := rfl
@[simp] theorem State.setStation_pending (s : State) (i : StationId) (v : Station) :
    (s.setStation i v).pending = s.pending := rfl
@[simp] theorem State.setStation_hold (s : State) (i : StationId) (v : Station) :
    (s.setStation i v).hold = s.hold := rfl
@[simp] theorem State.setStation_port (s : State) (i : StationId) (v : Station) :
    (s.setStation i v).port = s.port := rfl
@[simp] theorem State.setStation_line (s : State) (i : StationId) (v : Station) :
    (s.setStation i v).line = s.line := rfl
@[simp] theorem State.setStation_engine (s : State) (i : StationId) (v : Station) :
    (s.setStation i v).engine = s.engine := rfl
@[simp] theorem State.setStation_txns (s : State) (i : StationId) (v : Station) :
    (s.setStation i v).txns = s.txns := rfl
@[simp] theorem State.setStation_sched (s : State) (i : StationId) (v : Station) :
    (s.setStation i v).sched = s.sched := rfl
@[simp] theorem State.setStation_attempt (s : State) (i : StationId) (v : Station) :
    (s.setStation i v).attempt = s.attempt := rfl
@[simp] theorem State.setStation_inbound (s : State) (i : StationId) (v : Station) :
    (s.setStation i v).inbound = s.inbound := rfl
@[simp] theorem State.setStation_reports (s : State) (i : StationId) (v : Station) :
    (s.setStation i v).reports = s.reports := rfl
@[simp] theorem State.setStation_events (s : State) (i : StationId) (v : Station) :
    (s.setStation i v).events = s.events := rfl

/-! ### queueCompletions: writes reports -/

@[simp] theorem State.queueCompletions_now (s : State) (o : TxnOutcome) (l : List Record) :
    (s.queueCompletions o l).now = s.now := by
  induction l generalizing s with
  | nil => rfl
  | cons r rest ih => simp [State.queueCompletions, ih]
@[simp] theorem State.queueCompletions_pending (s : State) (o : TxnOutcome) (l : List Record) :
    (s.queueCompletions o l).pending = s.pending := by
  induction l generalizing s with
  | nil => rfl
  | cons r rest ih => simp [State.queueCompletions, ih]
@[simp] theorem State.queueCompletions_hold (s : State) (o : TxnOutcome) (l : List Record) :
    (s.queueCompletions o l).hold = s.hold := by
  induction l generalizing s with
  | nil => rfl
  | cons r rest ih => simp [State.queueCompletions, ih]
@[simp] theorem State.queueCompletions_port (s : State) (o : TxnOutcome) (l : List Record) :
    (s.queueCompletions o l).port = s.port := by
  induction l generalizing s with
  | nil => rfl
  | cons r rest ih => simp [State.queueCompletions, ih]
@[simp] theorem State.queueCompletions_line (s : State) (o : TxnOutcome) (l : List Record) :
    (s.queueCompletions o l).line = s.line := by
  induction l generalizing s with
  | nil => rfl
  | cons r rest ih => simp [State.queueCompletions, ih]
@[simp] theorem State.queueCompletions_engine (s : State) (o : TxnOutcome) (l : List Record) :
    (s.queueCompletions o l).engine = s.engine := by
  induction l generalizing s with
  | nil => rfl
  | cons r rest ih => simp [State.queueCompletions, ih]
@[simp] theorem State.queueCompletions_txns (s : State) (o : TxnOutcome) (l : List Record) :
    (s.queueCompletions o l).txns = s.txns := by
  induction l generalizing s with
  | nil => rfl
  | cons r rest ih => simp [State.queueCompletions, ih]
@[simp] theorem State.queueCompletions_sched (s : State) (o : TxnOutcome) (l : List Record) :
    (s.queueCompletions o l).sched = s.sched := by
  induction l generalizing s with
  | nil => rfl
  | cons r rest ih => simp [State.queueCompletions, ih]
@[simp] theorem State.queueCompletions_attempt (s : State) (o : TxnOutcome) (l : List Record) :
    (s.queueCompletions o l).attempt = s.attempt := by
  induction l generalizing s with
  | nil => rfl
  | cons r rest ih => simp [State.queueCompletions, ih]
@[simp] theorem State.queueCompletions_stations (s : State) (o : TxnOutcome) (l : List Record) :
    (s.queueCompletions o l).stations = s.stations := by
  induction l generalizing s with
  | nil => rfl
  | cons r rest ih => simp [State.queueCompletions, ih]
@[simp] theorem State.queueCompletions_inbound (s : State) (o : TxnOutcome) (l : List Record) :
    (s.queueCompletions o l).inbound = s.inbound := by
  induction l generalizing s with
  | nil => rfl
  | cons r rest ih => simp [State.queueCompletions, ih]
@[simp] theorem State.queueCompletions_events (s : State) (o : TxnOutcome) (l : List Record) :
    (s.queueCompletions o l).events = s.events := by
  induction l generalizing s with
  | nil => rfl
  | cons r rest ih => simp [State.queueCompletions, ih]

/-! ### completeAll: writes txns, reports -/

@[simp] theorem State.completeAll_now (s : State) (p : Record → Bool) (o : TxnOutcome) :
    (s.completeAll p o).now = s.now := by simp [State.completeAll]
@[simp] theorem State.completeAll_pending (s : State) (p : Record → Bool) (o : TxnOutcome) :
    (s.completeAll p o).pending = s.pending := by simp [State.completeAll]
@[simp] theorem State.completeAll_hold (s : State) (p : Record → Bool) (o : TxnOutcome) :
    (s.completeAll p o).hold = s.hold := by simp [State.completeAll]
@[simp] theorem State.completeAll_port (s : State) (p : Record → Bool) (o : TxnOutcome) :
    (s.completeAll p o).port = s.port := by simp [State.completeAll]
@[simp] theorem State.completeAll_line (s : State) (p : Record → Bool) (o : TxnOutcome) :
    (s.completeAll p o).line = s.line := by simp [State.completeAll]
@[simp] theorem State.completeAll_engine (s : State) (p : Record → Bool) (o : TxnOutcome) :
    (s.completeAll p o).engine = s.engine := by simp [State.completeAll]
@[simp] theorem State.completeAll_sched (s : State) (p : Record → Bool) (o : TxnOutcome) :
    (s.completeAll p o).sched = s.sched := by simp [State.completeAll]
@[simp] theorem State.completeAll_attempt (s : State) (p : Record → Bool) (o : TxnOutcome) :
    (s.completeAll p o).attempt = s.attempt := by simp [State.completeAll]
@[simp] theorem State.completeAll_stations (s : State) (p : Record → Bool) (o : TxnOutcome) :
    (s.completeAll p o).stations = s.stations := by simp [State.completeAll]
@[simp] theorem State.completeAll_inbound (s : State) (p : Record → Bool) (o : TxnOutcome) :
    (s.completeAll p o).inbound = s.inbound := by simp [State.completeAll]
@[simp] theorem State.completeAll_events (s : State) (p : Record → Bool) (o : TxnOutcome) :
    (s.completeAll p o).events = s.events := by simp [State.completeAll]

/-! ### removeInternal: writes txns -/

@[simp] theorem State.removeInternal_now (s : State) (p : Record → Bool) :
    (s.removeInternal p).now = s.now := rfl
@[simp] theorem State.removeInternal_pending (s : State) (p : Record → Bool) :
    (s.removeInternal p).pending = s.pending := rfl
@[simp] theorem State.removeInternal_hold (s : State) (p : Record → Bool) :
    (s.removeInternal p).hold = s.hold := rfl
@[simp] theorem State.removeInternal_port (s : State) (p : Record → Bool) :
    (s.removeInternal p).port = s.port := rfl
@[simp] theorem State.removeInternal_line (s : State) (p : Record → Bool) :
    (s.removeInternal p).line = s.line := rfl
@[simp] theorem State.removeInternal_engine (s : State) (p : Record → Bool) :
    (s.removeInternal p).engine = s.engine := rfl
@[simp] theorem State.removeInternal_sched (s : State) (p : Record → Bool) :
    (s.removeInternal p).sched = s.sched := rfl
@[simp] theorem State.removeInternal_attempt (s : State) (p : Record → Bool) :
    (s.removeInternal p).attempt = s.attempt := rfl
@[simp] theorem State.removeInternal_stations (s : State) (p : Record → Bool) :
    (s.removeInternal p).stations = s.stations := rfl
@[simp] theorem State.removeInternal_inbound (s : State) (p : Record → Bool) :
    (s.removeInternal p).inbound = s.inbound := rfl
@[simp] theorem State.removeInternal_reports (s : State) (p : Record → Bool) :
    (s.removeInternal p).reports = s.reports := rfl
@[simp] theorem State.removeInternal_events (s : State) (p : Record → Bool) :
    (s.removeInternal p).events = s.events := rfl

/-! ### flushAll: writes txns, reports -/

@[simp] theorem State.flushAll_now (s : State) (o : TxnOutcome) :
    (s.flushAll o).now = s.now := by simp [State.flushAll]
@[simp] theorem State.flushAll_pending (s : State) (o : TxnOutcome) :
    (s.flushAll o).pending = s.pending := by simp [State.flushAll]
@[simp] theorem State.flushAll_hold (s : State) (o : TxnOutcome) :
    (s.flushAll o).hold = s.hold := by simp [State.flushAll]
@[simp] theorem State.flushAll_port (s : State) (o : TxnOutcome) :
    (s.flushAll o).port = s.port := by simp [State.flushAll]
@[simp] theorem State.flushAll_line (s : State) (o : TxnOutcome) :
    (s.flushAll o).line = s.line := by simp [State.flushAll]
@[simp] theorem State.flushAll_engine (s : State) (o : TxnOutcome) :
    (s.flushAll o).engine = s.engine := by simp [State.flushAll]
@[simp] theorem State.flushAll_sched (s : State) (o : TxnOutcome) :
    (s.flushAll o).sched = s.sched := by simp [State.flushAll]
@[simp] theorem State.flushAll_attempt (s : State) (o : TxnOutcome) :
    (s.flushAll o).attempt = s.attempt := by simp [State.flushAll]
@[simp] theorem State.flushAll_stations (s : State) (o : TxnOutcome) :
    (s.flushAll o).stations = s.stations := by simp [State.flushAll]
@[simp] theorem State.flushAll_inbound (s : State) (o : TxnOutcome) :
    (s.flushAll o).inbound = s.inbound := by simp [State.flushAll]
@[simp] theorem State.flushAll_events (s : State) (o : TxnOutcome) :
    (s.flushAll o).events = s.events := by simp [State.flushAll]

/-! ### startAttempt: writes txns, attempt, line, sched -/

@[simp] theorem State.startAttempt_now (s : State) (r : Record) :
    (s.startAttempt r).now = s.now := rfl
@[simp] theorem State.startAttempt_pending (s : State) (r : Record) :
    (s.startAttempt r).pending = s.pending := rfl
@[simp] theorem State.startAttempt_hold (s : State) (r : Record) :
    (s.startAttempt r).hold = s.hold := rfl
@[simp] theorem State.startAttempt_port (s : State) (r : Record) :
    (s.startAttempt r).port = s.port := rfl
@[simp] theorem State.startAttempt_engine (s : State) (r : Record) :
    (s.startAttempt r).engine = s.engine := rfl
@[simp] theorem State.startAttempt_stations (s : State) (r : Record) :
    (s.startAttempt r).stations = s.stations := rfl
@[simp] theorem State.startAttempt_inbound (s : State) (r : Record) :
    (s.startAttempt r).inbound = s.inbound := rfl
@[simp] theorem State.startAttempt_reports (s : State) (r : Record) :
    (s.startAttempt r).reports = s.reports := rfl
@[simp] theorem State.startAttempt_events (s : State) (r : Record) :
    (s.startAttempt r).events = s.events := rfl

/-! ### holdPoll: writes sched, reports, events -/

@[simp] theorem State.holdPoll_now (s : State) (r : Record) :
    (s.holdPoll r).now = s.now := by
  simp only [State.holdPoll]; split
  · rfl
  · split <;> simp
@[simp] theorem State.holdPoll_pending (s : State) (r : Record) :
    (s.holdPoll r).pending = s.pending := by
  simp only [State.holdPoll]; split
  · rfl
  · split <;> simp
@[simp] theorem State.holdPoll_hold (s : State) (r : Record) :
    (s.holdPoll r).hold = s.hold := by
  simp only [State.holdPoll]; split
  · rfl
  · split <;> simp
@[simp] theorem State.holdPoll_port (s : State) (r : Record) :
    (s.holdPoll r).port = s.port := by
  simp only [State.holdPoll]; split
  · rfl
  · split <;> simp
@[simp] theorem State.holdPoll_line (s : State) (r : Record) :
    (s.holdPoll r).line = s.line := by
  simp only [State.holdPoll]; split
  · rfl
  · split <;> simp
@[simp] theorem State.holdPoll_engine (s : State) (r : Record) :
    (s.holdPoll r).engine = s.engine := by
  simp only [State.holdPoll]; split
  · rfl
  · split <;> simp
@[simp] theorem State.holdPoll_txns (s : State) (r : Record) :
    (s.holdPoll r).txns = s.txns := by
  simp only [State.holdPoll]; split
  · rfl
  · split <;> simp
@[simp] theorem State.holdPoll_attempt (s : State) (r : Record) :
    (s.holdPoll r).attempt = s.attempt := by
  simp only [State.holdPoll]; split
  · rfl
  · split <;> simp
@[simp] theorem State.holdPoll_stations (s : State) (r : Record) :
    (s.holdPoll r).stations = s.stations := by
  simp only [State.holdPoll]; split
  · rfl
  · split <;> simp
@[simp] theorem State.holdPoll_inbound (s : State) (r : Record) :
    (s.holdPoll r).inbound = s.inbound := by
  simp only [State.holdPoll]; split
  · rfl
  · split <;> simp

/-! ### walkFrom: writes txns, attempt, line, sched, reports, events -/

@[simp] theorem State.walkFrom_now (s : State) (g : OpenGap) (older l : List Record) :
    (s.walkFrom g older l).now = s.now := by
  induction l generalizing s older with
  | nil => rfl
  | cons r rest ih =>
    simp only [State.walkFrom]; split
    · split
      · simp [ih]
      · split <;> simp [ih]
    · simp [ih]
@[simp] theorem State.walkFrom_pending (s : State) (g : OpenGap) (older l : List Record) :
    (s.walkFrom g older l).pending = s.pending := by
  induction l generalizing s older with
  | nil => rfl
  | cons r rest ih =>
    simp only [State.walkFrom]; split
    · split
      · simp [ih]
      · split <;> simp [ih]
    · simp [ih]
@[simp] theorem State.walkFrom_hold (s : State) (g : OpenGap) (older l : List Record) :
    (s.walkFrom g older l).hold = s.hold := by
  induction l generalizing s older with
  | nil => rfl
  | cons r rest ih =>
    simp only [State.walkFrom]; split
    · split
      · simp [ih]
      · split <;> simp [ih]
    · simp [ih]
@[simp] theorem State.walkFrom_port (s : State) (g : OpenGap) (older l : List Record) :
    (s.walkFrom g older l).port = s.port := by
  induction l generalizing s older with
  | nil => rfl
  | cons r rest ih =>
    simp only [State.walkFrom]; split
    · split
      · simp [ih]
      · split <;> simp [ih]
    · simp [ih]
@[simp] theorem State.walkFrom_engine (s : State) (g : OpenGap) (older l : List Record) :
    (s.walkFrom g older l).engine = s.engine := by
  induction l generalizing s older with
  | nil => rfl
  | cons r rest ih =>
    simp only [State.walkFrom]; split
    · split
      · simp [ih]
      · split <;> simp [ih]
    · simp [ih]
@[simp] theorem State.walkFrom_stations (s : State) (g : OpenGap) (older l : List Record) :
    (s.walkFrom g older l).stations = s.stations := by
  induction l generalizing s older with
  | nil => rfl
  | cons r rest ih =>
    simp only [State.walkFrom]; split
    · split
      · simp [ih]
      · split <;> simp [ih]
    · simp [ih]
@[simp] theorem State.walkFrom_inbound (s : State) (g : OpenGap) (older l : List Record) :
    (s.walkFrom g older l).inbound = s.inbound := by
  induction l generalizing s older with
  | nil => rfl
  | cons r rest ih =>
    simp only [State.walkFrom]; split
    · split
      · simp [ih]
      · split <;> simp [ih]
    · simp [ih]

/-! ### walk: writes txns, attempt, line, sched, reports, events -/

@[simp] theorem State.walk_now (s : State) :
    (s.walk).now = s.now := by
  simp only [State.walk]; split
  · rfl
  · split <;> simp
@[simp] theorem State.walk_pending (s : State) :
    (s.walk).pending = s.pending := by
  simp only [State.walk]; split
  · rfl
  · split <;> simp
@[simp] theorem State.walk_hold (s : State) :
    (s.walk).hold = s.hold := by
  simp only [State.walk]; split
  · rfl
  · split <;> simp
@[simp] theorem State.walk_port (s : State) :
    (s.walk).port = s.port := by
  simp only [State.walk]; split
  · rfl
  · split <;> simp
@[simp] theorem State.walk_engine (s : State) :
    (s.walk).engine = s.engine := by
  simp only [State.walk]; split
  · rfl
  · split <;> simp
@[simp] theorem State.walk_stations (s : State) :
    (s.walk).stations = s.stations := by
  simp only [State.walk]; split
  · rfl
  · split <;> simp
@[simp] theorem State.walk_inbound (s : State) :
    (s.walk).inbound = s.inbound := by
  simp only [State.walk]; split
  · rfl
  · split <;> simp

end Sys2Proof.Machine
end

