-- ==== Sys2Proof/Laws/AttemptsFrame.lean ====
section
/-! SUPPORT. The frame of the operations at the end of an attempt: every field of the state that the operation leaves as it was. -/

namespace Sys2Proof.Machine

/-! ### stationResult: writes stations -/

@[simp] theorem State.stationResult_now (s : State) (i : StationId) (a : Attempt) (o : TxnOutcome) :
    ((s.stationResult i a o).1).now = s.now := rfl
@[simp] theorem State.stationResult_pending (s : State) (i : StationId) (a : Attempt) (o : TxnOutcome) :
    ((s.stationResult i a o).1).pending = s.pending := rfl
@[simp] theorem State.stationResult_hold (s : State) (i : StationId) (a : Attempt) (o : TxnOutcome) :
    ((s.stationResult i a o).1).hold = s.hold := rfl
@[simp] theorem State.stationResult_port (s : State) (i : StationId) (a : Attempt) (o : TxnOutcome) :
    ((s.stationResult i a o).1).port = s.port := rfl
@[simp] theorem State.stationResult_line (s : State) (i : StationId) (a : Attempt) (o : TxnOutcome) :
    ((s.stationResult i a o).1).line = s.line := rfl
@[simp] theorem State.stationResult_engine (s : State) (i : StationId) (a : Attempt) (o : TxnOutcome) :
    ((s.stationResult i a o).1).engine = s.engine := rfl
@[simp] theorem State.stationResult_txns (s : State) (i : StationId) (a : Attempt) (o : TxnOutcome) :
    ((s.stationResult i a o).1).txns = s.txns := rfl
@[simp] theorem State.stationResult_sched (s : State) (i : StationId) (a : Attempt) (o : TxnOutcome) :
    ((s.stationResult i a o).1).sched = s.sched := rfl
@[simp] theorem State.stationResult_attempt (s : State) (i : StationId) (a : Attempt) (o : TxnOutcome) :
    ((s.stationResult i a o).1).attempt = s.attempt := rfl
@[simp] theorem State.stationResult_inbound (s : State) (i : StationId) (a : Attempt) (o : TxnOutcome) :
    ((s.stationResult i a o).1).inbound = s.inbound := rfl
@[simp] theorem State.stationResult_reports (s : State) (i : StationId) (a : Attempt) (o : TxnOutcome) :
    ((s.stationResult i a o).1).reports = s.reports := rfl
@[simp] theorem State.stationResult_events (s : State) (i : StationId) (a : Attempt) (o : TxnOutcome) :
    ((s.stationResult i a o).1).events = s.events := rfl

/-! ### keepMessage: writes inbound, reports, events -/

@[simp] theorem State.keepMessage_now (s : State) (m : Message) :
    (s.keepMessage m).now = s.now := by
  simp only [State.keepMessage]; split <;> simp
@[simp] theorem State.keepMessage_pending (s : State) (m : Message) :
    (s.keepMessage m).pending = s.pending := by
  simp only [State.keepMessage]; split <;> simp
@[simp] theorem State.keepMessage_hold (s : State) (m : Message) :
    (s.keepMessage m).hold = s.hold := by
  simp only [State.keepMessage]; split <;> simp
@[simp] theorem State.keepMessage_port (s : State) (m : Message) :
    (s.keepMessage m).port = s.port := by
  simp only [State.keepMessage]; split <;> simp
@[simp] theorem State.keepMessage_line (s : State) (m : Message) :
    (s.keepMessage m).line = s.line := by
  simp only [State.keepMessage]; split <;> simp
@[simp] theorem State.keepMessage_engine (s : State) (m : Message) :
    (s.keepMessage m).engine = s.engine := by
  simp only [State.keepMessage]; split <;> simp
@[simp] theorem State.keepMessage_txns (s : State) (m : Message) :
    (s.keepMessage m).txns = s.txns := by
  simp only [State.keepMessage]; split <;> simp
@[simp] theorem State.keepMessage_sched (s : State) (m : Message) :
    (s.keepMessage m).sched = s.sched := by
  simp only [State.keepMessage]; split <;> simp
@[simp] theorem State.keepMessage_attempt (s : State) (m : Message) :
    (s.keepMessage m).attempt = s.attempt := by
  simp only [State.keepMessage]; split <;> simp
@[simp] theorem State.keepMessage_stations (s : State) (m : Message) :
    (s.keepMessage m).stations = s.stations := by
  simp only [State.keepMessage]; split <;> simp

/-! ### discardMessage: writes stations -/

@[simp] theorem State.discardMessage_now (s : State) (i : StationId) :
    (s.discardMessage i).now = s.now := rfl
@[simp] theorem State.discardMessage_pending (s : State) (i : StationId) :
    (s.discardMessage i).pending = s.pending := rfl
@[simp] theorem State.discardMessage_hold (s : State) (i : StationId) :
    (s.discardMessage i).hold = s.hold := rfl
@[simp] theorem State.discardMessage_port (s : State) (i : StationId) :
    (s.discardMessage i).port = s.port := rfl
@[simp] theorem State.discardMessage_line (s : State) (i : StationId) :
    (s.discardMessage i).line = s.line := rfl
@[simp] theorem State.discardMessage_engine (s : State) (i : StationId) :
    (s.discardMessage i).engine = s.engine := rfl
@[simp] theorem State.discardMessage_txns (s : State) (i : StationId) :
    (s.discardMessage i).txns = s.txns := rfl
@[simp] theorem State.discardMessage_sched (s : State) (i : StationId) :
    (s.discardMessage i).sched = s.sched := rfl
@[simp] theorem State.discardMessage_attempt (s : State) (i : StationId) :
    (s.discardMessage i).attempt = s.attempt := rfl
@[simp] theorem State.discardMessage_inbound (s : State) (i : StationId) :
    (s.discardMessage i).inbound = s.inbound := rfl
@[simp] theorem State.discardMessage_reports (s : State) (i : StationId) :
    (s.discardMessage i).reports = s.reports := rfl
@[simp] theorem State.discardMessage_events (s : State) (i : StationId) :
    (s.discardMessage i).events = s.events := rfl

/-! ### arrive: writes inbound, stations, reports, events -/

@[simp] theorem State.arrive_now (s : State) (m : Message) :
    (s.arrive m).now = s.now := by
  simp only [State.arrive]; split <;> simp
@[simp] theorem State.arrive_pending (s : State) (m : Message) :
    (s.arrive m).pending = s.pending := by
  simp only [State.arrive]; split <;> simp
@[simp] theorem State.arrive_hold (s : State) (m : Message) :
    (s.arrive m).hold = s.hold := by
  simp only [State.arrive]; split <;> simp
@[simp] theorem State.arrive_port (s : State) (m : Message) :
    (s.arrive m).port = s.port := by
  simp only [State.arrive]; split <;> simp
@[simp] theorem State.arrive_line (s : State) (m : Message) :
    (s.arrive m).line = s.line := by
  simp only [State.arrive]; split <;> simp
@[simp] theorem State.arrive_engine (s : State) (m : Message) :
    (s.arrive m).engine = s.engine := by
  simp only [State.arrive]; split <;> simp
@[simp] theorem State.arrive_txns (s : State) (m : Message) :
    (s.arrive m).txns = s.txns := by
  simp only [State.arrive]; split <;> simp
@[simp] theorem State.arrive_sched (s : State) (m : Message) :
    (s.arrive m).sched = s.sched := by
  simp only [State.arrive]; split <;> simp
@[simp] theorem State.arrive_attempt (s : State) (m : Message) :
    (s.arrive m).attempt = s.attempt := by
  simp only [State.arrive]; split <;> simp

/-! ### inboundResult: writes inbound, stations, reports, events -/

@[simp] theorem State.inboundResult_now (s : State) (a : Attempt) (o : TxnOutcome) :
    (s.inboundResult a o).now = s.now := by
  simp only [State.inboundResult]; split
  · rfl
  · split <;> simp
@[simp] theorem State.inboundResult_pending (s : State) (a : Attempt) (o : TxnOutcome) :
    (s.inboundResult a o).pending = s.pending := by
  simp only [State.inboundResult]; split
  · rfl
  · split <;> simp
@[simp] theorem State.inboundResult_hold (s : State) (a : Attempt) (o : TxnOutcome) :
    (s.inboundResult a o).hold = s.hold := by
  simp only [State.inboundResult]; split
  · rfl
  · split <;> simp
@[simp] theorem State.inboundResult_port (s : State) (a : Attempt) (o : TxnOutcome) :
    (s.inboundResult a o).port = s.port := by
  simp only [State.inboundResult]; split
  · rfl
  · split <;> simp
@[simp] theorem State.inboundResult_line (s : State) (a : Attempt) (o : TxnOutcome) :
    (s.inboundResult a o).line = s.line := by
  simp only [State.inboundResult]; split
  · rfl
  · split <;> simp
@[simp] theorem State.inboundResult_engine (s : State) (a : Attempt) (o : TxnOutcome) :
    (s.inboundResult a o).engine = s.engine := by
  simp only [State.inboundResult]; split
  · rfl
  · split <;> simp
@[simp] theorem State.inboundResult_txns (s : State) (a : Attempt) (o : TxnOutcome) :
    (s.inboundResult a o).txns = s.txns := by
  simp only [State.inboundResult]; split
  · rfl
  · split <;> simp
@[simp] theorem State.inboundResult_sched (s : State) (a : Attempt) (o : TxnOutcome) :
    (s.inboundResult a o).sched = s.sched := by
  simp only [State.inboundResult]; split
  · rfl
  · split <;> simp
@[simp] theorem State.inboundResult_attempt (s : State) (a : Attempt) (o : TxnOutcome) :
    (s.inboundResult a o).attempt = s.attempt := by
  simp only [State.inboundResult]; split
  · rfl
  · split <;> simp

/-! ### treatRecord: writes txns, reports -/

@[simp] theorem State.treatRecord_now (s : State) (res : AttemptResult) :
    (s.treatRecord res).now = s.now := by
  simp only [State.treatRecord]; split
  · rfl
  · split
    · rfl
    · split <;> simp
@[simp] theorem State.treatRecord_pending (s : State) (res : AttemptResult) :
    (s.treatRecord res).pending = s.pending := by
  simp only [State.treatRecord]; split
  · rfl
  · split
    · rfl
    · split <;> simp
@[simp] theorem State.treatRecord_hold (s : State) (res : AttemptResult) :
    (s.treatRecord res).hold = s.hold := by
  simp only [State.treatRecord]; split
  · rfl
  · split
    · rfl
    · split <;> simp
@[simp] theorem State.treatRecord_port (s : State) (res : AttemptResult) :
    (s.treatRecord res).port = s.port := by
  simp only [State.treatRecord]; split
  · rfl
  · split
    · rfl
    · split <;> simp
@[simp] theorem State.treatRecord_line (s : State) (res : AttemptResult) :
    (s.treatRecord res).line = s.line := by
  simp only [State.treatRecord]; split
  · rfl
  · split
    · rfl
    · split <;> simp
@[simp] theorem State.treatRecord_engine (s : State) (res : AttemptResult) :
    (s.treatRecord res).engine = s.engine := by
  simp only [State.treatRecord]; split
  · rfl
  · split
    · rfl
    · split <;> simp
@[simp] theorem State.treatRecord_sched (s : State) (res : AttemptResult) :
    (s.treatRecord res).sched = s.sched := by
  simp only [State.treatRecord]; split
  · rfl
  · split
    · rfl
    · split <;> simp
@[simp] theorem State.treatRecord_attempt (s : State) (res : AttemptResult) :
    (s.treatRecord res).attempt = s.attempt := by
  simp only [State.treatRecord]; split
  · rfl
  · split
    · rfl
    · split <;> simp
@[simp] theorem State.treatRecord_stations (s : State) (res : AttemptResult) :
    (s.treatRecord res).stations = s.stations := by
  simp only [State.treatRecord]; split
  · rfl
  · split
    · rfl
    · split <;> simp
@[simp] theorem State.treatRecord_inbound (s : State) (res : AttemptResult) :
    (s.treatRecord res).inbound = s.inbound := by
  simp only [State.treatRecord]; split
  · rfl
  · split
    · rfl
    · split <;> simp
@[simp] theorem State.treatRecord_events (s : State) (res : AttemptResult) :
    (s.treatRecord res).events = s.events := by
  simp only [State.treatRecord]; split
  · rfl
  · split
    · rfl
    · split <;> simp

/-! ### flushFor: writes txns, reports -/

@[simp] theorem State.flushFor_now (s : State) (i : StationId) (c : StationChange) :
    (s.flushFor i c).now = s.now := by
  cases c <;> simp [State.flushFor]
@[simp] theorem State.flushFor_pending (s : State) (i : StationId) (c : StationChange) :
    (s.flushFor i c).pending = s.pending := by
  cases c <;> simp [State.flushFor]
@[simp] theorem State.flushFor_hold (s : State) (i : StationId) (c : StationChange) :
    (s.flushFor i c).hold = s.hold := by
  cases c <;> simp [State.flushFor]
@[simp] theorem State.flushFor_port (s : State) (i : StationId) (c : StationChange) :
    (s.flushFor i c).port = s.port := by
  cases c <;> simp [State.flushFor]
@[simp] theorem State.flushFor_line (s : State) (i : StationId) (c : StationChange) :
    (s.flushFor i c).line = s.line := by
  cases c <;> simp [State.flushFor]
@[simp] theorem State.flushFor_engine (s : State) (i : StationId) (c : StationChange) :
    (s.flushFor i c).engine = s.engine := by
  cases c <;> simp [State.flushFor]
@[simp] theorem State.flushFor_sched (s : State) (i : StationId) (c : StationChange) :
    (s.flushFor i c).sched = s.sched := by
  cases c <;> simp [State.flushFor]
@[simp] theorem State.flushFor_attempt (s : State) (i : StationId) (c : StationChange) :
    (s.flushFor i c).attempt = s.attempt := by
  cases c <;> simp [State.flushFor]
@[simp] theorem State.flushFor_stations (s : State) (i : StationId) (c : StationChange) :
    (s.flushFor i c).stations = s.stations := by
  cases c <;> simp [State.flushFor]
@[simp] theorem State.flushFor_inbound (s : State) (i : StationId) (c : StationChange) :
    (s.flushFor i c).inbound = s.inbound := by
  cases c <;> simp [State.flushFor]
@[simp] theorem State.flushFor_events (s : State) (i : StationId) (c : StationChange) :
    (s.flushFor i c).events = s.events := by
  cases c <;> simp [State.flushFor]

/-! ### stationEvents: writes reports, events -/

@[simp] theorem State.stationEvents_now (s : State) (i : StationId) (c : StationChange) (a : Attempt) (o : TxnOutcome) :
    (s.stationEvents i c a o).now = s.now := by
  simp only [State.stationEvents]; split <;> split <;> simp
@[simp] theorem State.stationEvents_pending (s : State) (i : StationId) (c : StationChange) (a : Attempt) (o : TxnOutcome) :
    (s.stationEvents i c a o).pending = s.pending := by
  simp only [State.stationEvents]; split <;> split <;> simp
@[simp] theorem State.stationEvents_hold (s : State) (i : StationId) (c : StationChange) (a : Attempt) (o : TxnOutcome) :
    (s.stationEvents i c a o).hold = s.hold := by
  simp only [State.stationEvents]; split <;> split <;> simp
@[simp] theorem State.stationEvents_port (s : State) (i : StationId) (c : StationChange) (a : Attempt) (o : TxnOutcome) :
    (s.stationEvents i c a o).port = s.port := by
  simp only [State.stationEvents]; split <;> split <;> simp
@[simp] theorem State.stationEvents_line (s : State) (i : StationId) (c : StationChange) (a : Attempt) (o : TxnOutcome) :
    (s.stationEvents i c a o).line = s.line := by
  simp only [State.stationEvents]; split <;> split <;> simp
@[simp] theorem State.stationEvents_engine (s : State) (i : StationId) (c : StationChange) (a : Attempt) (o : TxnOutcome) :
    (s.stationEvents i c a o).engine = s.engine := by
  simp only [State.stationEvents]; split <;> split <;> simp
@[simp] theorem State.stationEvents_txns (s : State) (i : StationId) (c : StationChange) (a : Attempt) (o : TxnOutcome) :
    (s.stationEvents i c a o).txns = s.txns := by
  simp only [State.stationEvents]; split <;> split <;> simp
@[simp] theorem State.stationEvents_sched (s : State) (i : StationId) (c : StationChange) (a : Attempt) (o : TxnOutcome) :
    (s.stationEvents i c a o).sched = s.sched := by
  simp only [State.stationEvents]; split <;> split <;> simp
@[simp] theorem State.stationEvents_attempt (s : State) (i : StationId) (c : StationChange) (a : Attempt) (o : TxnOutcome) :
    (s.stationEvents i c a o).attempt = s.attempt := by
  simp only [State.stationEvents]; split <;> split <;> simp
@[simp] theorem State.stationEvents_stations (s : State) (i : StationId) (c : StationChange) (a : Attempt) (o : TxnOutcome) :
    (s.stationEvents i c a o).stations = s.stations := by
  simp only [State.stationEvents]; split <;> split <;> simp
@[simp] theorem State.stationEvents_inbound (s : State) (i : StationId) (c : StationChange) (a : Attempt) (o : TxnOutcome) :
    (s.stationEvents i c a o).inbound = s.inbound := by
  simp only [State.stationEvents]; split <;> split <;> simp

/-! ### handOn: writes stations, inbound, txns, reports, events -/

@[simp] theorem State.handOn_now (s : State) (i : StationId) (a : Attempt) (o : TxnOutcome) :
    (s.handOn i a o).now = s.now := by simp [State.handOn]
@[simp] theorem State.handOn_pending (s : State) (i : StationId) (a : Attempt) (o : TxnOutcome) :
    (s.handOn i a o).pending = s.pending := by simp [State.handOn]
@[simp] theorem State.handOn_hold (s : State) (i : StationId) (a : Attempt) (o : TxnOutcome) :
    (s.handOn i a o).hold = s.hold := by simp [State.handOn]
@[simp] theorem State.handOn_port (s : State) (i : StationId) (a : Attempt) (o : TxnOutcome) :
    (s.handOn i a o).port = s.port := by simp [State.handOn]
@[simp] theorem State.handOn_line (s : State) (i : StationId) (a : Attempt) (o : TxnOutcome) :
    (s.handOn i a o).line = s.line := by simp [State.handOn]
@[simp] theorem State.handOn_engine (s : State) (i : StationId) (a : Attempt) (o : TxnOutcome) :
    (s.handOn i a o).engine = s.engine := by simp [State.handOn]
@[simp] theorem State.handOn_sched (s : State) (i : StationId) (a : Attempt) (o : TxnOutcome) :
    (s.handOn i a o).sched = s.sched := by simp [State.handOn]
@[simp] theorem State.handOn_attempt (s : State) (i : StationId) (a : Attempt) (o : TxnOutcome) :
    (s.handOn i a o).attempt = s.attempt := by simp [State.handOn]

/-! ### endAttempt: writes attempt, stations, inbound, txns, reports, events, line, sched -/

@[simp] theorem State.endAttempt_now (s : State) (a : Attempt) (o : TxnOutcome) :
    (s.endAttempt a o).now = s.now := by
  simp only [State.endAttempt]; split <;> simp
@[simp] theorem State.endAttempt_pending (s : State) (a : Attempt) (o : TxnOutcome) :
    (s.endAttempt a o).pending = s.pending := by
  simp only [State.endAttempt]; split <;> simp
@[simp] theorem State.endAttempt_hold (s : State) (a : Attempt) (o : TxnOutcome) :
    (s.endAttempt a o).hold = s.hold := by
  simp only [State.endAttempt]; split <;> simp
@[simp] theorem State.endAttempt_port (s : State) (a : Attempt) (o : TxnOutcome) :
    (s.endAttempt a o).port = s.port := by
  simp only [State.endAttempt]; split <;> simp
@[simp] theorem State.endAttempt_engine (s : State) (a : Attempt) (o : TxnOutcome) :
    (s.endAttempt a o).engine = s.engine := by
  simp only [State.endAttempt]; split <;> simp

end Sys2Proof.Machine
end

