-- ==== Sys2Proof/Laws/RoundsFrame.lean ====
section
/-! SUPPORT. The frame of the operations of the Round Engine: every field of the state that the operation leaves as it was. -/

namespace Sys2Proof.Machine

/-! ### closeGap: writes sched -/

@[simp] theorem State.closeGap_now (s : State) :
    (s.closeGap).now = s.now := rfl
@[simp] theorem State.closeGap_pending (s : State) :
    (s.closeGap).pending = s.pending := rfl
@[simp] theorem State.closeGap_hold (s : State) :
    (s.closeGap).hold = s.hold := rfl
@[simp] theorem State.closeGap_port (s : State) :
    (s.closeGap).port = s.port := rfl
@[simp] theorem State.closeGap_line (s : State) :
    (s.closeGap).line = s.line := rfl
@[simp] theorem State.closeGap_engine (s : State) :
    (s.closeGap).engine = s.engine := rfl
@[simp] theorem State.closeGap_txns (s : State) :
    (s.closeGap).txns = s.txns := rfl
@[simp] theorem State.closeGap_attempt (s : State) :
    (s.closeGap).attempt = s.attempt := rfl
@[simp] theorem State.closeGap_stations (s : State) :
    (s.closeGap).stations = s.stations := rfl
@[simp] theorem State.closeGap_inbound (s : State) :
    (s.closeGap).inbound = s.inbound := rfl
@[simp] theorem State.closeGap_reports (s : State) :
    (s.closeGap).reports = s.reports := rfl
@[simp] theorem State.closeGap_events (s : State) :
    (s.closeGap).events = s.events := rfl

/-! ### enterStopped: writes line, engine, sched, txns, reports, events -/

@[simp] theorem State.enterStopped_now (s : State) :
    (s.enterStopped).now = s.now := by simp [State.enterStopped]
@[simp] theorem State.enterStopped_pending (s : State) :
    (s.enterStopped).pending = s.pending := by simp [State.enterStopped]
@[simp] theorem State.enterStopped_hold (s : State) :
    (s.enterStopped).hold = s.hold := by simp [State.enterStopped]
@[simp] theorem State.enterStopped_port (s : State) :
    (s.enterStopped).port = s.port := by simp [State.enterStopped]
@[simp] theorem State.enterStopped_attempt (s : State) :
    (s.enterStopped).attempt = s.attempt := by simp [State.enterStopped]
@[simp] theorem State.enterStopped_stations (s : State) :
    (s.enterStopped).stations = s.stations := by simp [State.enterStopped]
@[simp] theorem State.enterStopped_inbound (s : State) :
    (s.enterStopped).inbound = s.inbound := by simp [State.enterStopped]

/-! ### clearFault: writes engine, reports, events -/

@[simp] theorem State.clearFault_now (s : State) :
    (s.clearFault).now = s.now := by simp [State.clearFault]
@[simp] theorem State.clearFault_pending (s : State) :
    (s.clearFault).pending = s.pending := by simp [State.clearFault]
@[simp] theorem State.clearFault_hold (s : State) :
    (s.clearFault).hold = s.hold := by simp [State.clearFault]
@[simp] theorem State.clearFault_port (s : State) :
    (s.clearFault).port = s.port := by simp [State.clearFault]
@[simp] theorem State.clearFault_line (s : State) :
    (s.clearFault).line = s.line := by simp [State.clearFault]
@[simp] theorem State.clearFault_txns (s : State) :
    (s.clearFault).txns = s.txns := by simp [State.clearFault]
@[simp] theorem State.clearFault_sched (s : State) :
    (s.clearFault).sched = s.sched := by simp [State.clearFault]
@[simp] theorem State.clearFault_attempt (s : State) :
    (s.clearFault).attempt = s.attempt := by simp [State.clearFault]
@[simp] theorem State.clearFault_stations (s : State) :
    (s.clearFault).stations = s.stations := by simp [State.clearFault]
@[simp] theorem State.clearFault_inbound (s : State) :
    (s.clearFault).inbound = s.inbound := by simp [State.clearFault]

/-! ### enterHalted: writes line, engine, sched, txns, reports, events -/

@[simp] theorem State.enterHalted_now (s : State) :
    (s.enterHalted).now = s.now := by simp [State.enterHalted]
@[simp] theorem State.enterHalted_pending (s : State) :
    (s.enterHalted).pending = s.pending := by simp [State.enterHalted]
@[simp] theorem State.enterHalted_hold (s : State) :
    (s.enterHalted).hold = s.hold := by simp [State.enterHalted]
@[simp] theorem State.enterHalted_port (s : State) :
    (s.enterHalted).port = s.port := by simp [State.enterHalted]
@[simp] theorem State.enterHalted_attempt (s : State) :
    (s.enterHalted).attempt = s.attempt := by simp [State.enterHalted]
@[simp] theorem State.enterHalted_stations (s : State) :
    (s.enterHalted).stations = s.stations := by simp [State.enterHalted]
@[simp] theorem State.enterHalted_inbound (s : State) :
    (s.enterHalted).inbound = s.inbound := by simp [State.enterHalted]

/-! ### staleOccurrences: writes reports, events -/

@[simp] theorem State.staleOccurrences_now (s : State) (l : List SegmentIndex) :
    (s.staleOccurrences l).now = s.now := by
  induction l generalizing s with
  | nil => rfl
  | cons k rest ih => simp [State.staleOccurrences, ih]
@[simp] theorem State.staleOccurrences_pending (s : State) (l : List SegmentIndex) :
    (s.staleOccurrences l).pending = s.pending := by
  induction l generalizing s with
  | nil => rfl
  | cons k rest ih => simp [State.staleOccurrences, ih]
@[simp] theorem State.staleOccurrences_hold (s : State) (l : List SegmentIndex) :
    (s.staleOccurrences l).hold = s.hold := by
  induction l generalizing s with
  | nil => rfl
  | cons k rest ih => simp [State.staleOccurrences, ih]
@[simp] theorem State.staleOccurrences_port (s : State) (l : List SegmentIndex) :
    (s.staleOccurrences l).port = s.port := by
  induction l generalizing s with
  | nil => rfl
  | cons k rest ih => simp [State.staleOccurrences, ih]
@[simp] theorem State.staleOccurrences_line (s : State) (l : List SegmentIndex) :
    (s.staleOccurrences l).line = s.line := by
  induction l generalizing s with
  | nil => rfl
  | cons k rest ih => simp [State.staleOccurrences, ih]
@[simp] theorem State.staleOccurrences_engine (s : State) (l : List SegmentIndex) :
    (s.staleOccurrences l).engine = s.engine := by
  induction l generalizing s with
  | nil => rfl
  | cons k rest ih => simp [State.staleOccurrences, ih]
@[simp] theorem State.staleOccurrences_txns (s : State) (l : List SegmentIndex) :
    (s.staleOccurrences l).txns = s.txns := by
  induction l generalizing s with
  | nil => rfl
  | cons k rest ih => simp [State.staleOccurrences, ih]
@[simp] theorem State.staleOccurrences_sched (s : State) (l : List SegmentIndex) :
    (s.staleOccurrences l).sched = s.sched := by
  induction l generalizing s with
  | nil => rfl
  | cons k rest ih => simp [State.staleOccurrences, ih]
@[simp] theorem State.staleOccurrences_attempt (s : State) (l : List SegmentIndex) :
    (s.staleOccurrences l).attempt = s.attempt := by
  induction l generalizing s with
  | nil => rfl
  | cons k rest ih => simp [State.staleOccurrences, ih]
@[simp] theorem State.staleOccurrences_stations (s : State) (l : List SegmentIndex) :
    (s.staleOccurrences l).stations = s.stations := by
  induction l generalizing s with
  | nil => rfl
  | cons k rest ih => simp [State.staleOccurrences, ih]
@[simp] theorem State.staleOccurrences_inbound (s : State) (l : List SegmentIndex) :
    (s.staleOccurrences l).inbound = s.inbound := by
  induction l generalizing s with
  | nil => rfl
  | cons k rest ih => simp [State.staleOccurrences, ih]

/-! ### commitTable: writes engine, reports, events -/

@[simp] theorem State.commitTable_now (s : State) :
    (s.commitTable).now = s.now := by simp [State.commitTable]
@[simp] theorem State.commitTable_pending (s : State) :
    (s.commitTable).pending = s.pending := by simp [State.commitTable]
@[simp] theorem State.commitTable_hold (s : State) :
    (s.commitTable).hold = s.hold := by simp [State.commitTable]
@[simp] theorem State.commitTable_port (s : State) :
    (s.commitTable).port = s.port := by simp [State.commitTable]
@[simp] theorem State.commitTable_line (s : State) :
    (s.commitTable).line = s.line := by simp [State.commitTable]
@[simp] theorem State.commitTable_txns (s : State) :
    (s.commitTable).txns = s.txns := by simp [State.commitTable]
@[simp] theorem State.commitTable_sched (s : State) :
    (s.commitTable).sched = s.sched := by simp [State.commitTable]
@[simp] theorem State.commitTable_attempt (s : State) :
    (s.commitTable).attempt = s.attempt := by simp [State.commitTable]
@[simp] theorem State.commitTable_stations (s : State) :
    (s.commitTable).stations = s.stations := by simp [State.commitTable]
@[simp] theorem State.commitTable_inbound (s : State) :
    (s.commitTable).inbound = s.inbound := by simp [State.commitTable]

/-! ### sweepAndAnchor: writes txns, reports -/

@[simp] theorem State.sweepAndAnchor_now (s : State) :
    (s.sweepAndAnchor).now = s.now := by simp [State.sweepAndAnchor]
@[simp] theorem State.sweepAndAnchor_pending (s : State) :
    (s.sweepAndAnchor).pending = s.pending := by simp [State.sweepAndAnchor]
@[simp] theorem State.sweepAndAnchor_hold (s : State) :
    (s.sweepAndAnchor).hold = s.hold := by simp [State.sweepAndAnchor]
@[simp] theorem State.sweepAndAnchor_port (s : State) :
    (s.sweepAndAnchor).port = s.port := by simp [State.sweepAndAnchor]
@[simp] theorem State.sweepAndAnchor_line (s : State) :
    (s.sweepAndAnchor).line = s.line := by simp [State.sweepAndAnchor]
@[simp] theorem State.sweepAndAnchor_engine (s : State) :
    (s.sweepAndAnchor).engine = s.engine := by simp [State.sweepAndAnchor]
@[simp] theorem State.sweepAndAnchor_sched (s : State) :
    (s.sweepAndAnchor).sched = s.sched := by simp [State.sweepAndAnchor]
@[simp] theorem State.sweepAndAnchor_attempt (s : State) :
    (s.sweepAndAnchor).attempt = s.attempt := by simp [State.sweepAndAnchor]
@[simp] theorem State.sweepAndAnchor_stations (s : State) :
    (s.sweepAndAnchor).stations = s.stations := by simp [State.sweepAndAnchor]
@[simp] theorem State.sweepAndAnchor_inbound (s : State) :
    (s.sweepAndAnchor).inbound = s.inbound := by simp [State.sweepAndAnchor]
@[simp] theorem State.sweepAndAnchor_events (s : State) :
    (s.sweepAndAnchor).events = s.events := by simp [State.sweepAndAnchor]

/-! ### generateFor: writes txns, stations -/

@[simp] theorem State.generateFor_now (s : State) (i : StationId) :
    (s.generateFor i).now = s.now := by
  simp only [State.generateFor]; split
  · rfl
  · split <;> simp
@[simp] theorem State.generateFor_pending (s : State) (i : StationId) :
    (s.generateFor i).pending = s.pending := by
  simp only [State.generateFor]; split
  · rfl
  · split <;> simp
@[simp] theorem State.generateFor_hold (s : State) (i : StationId) :
    (s.generateFor i).hold = s.hold := by
  simp only [State.generateFor]; split
  · rfl
  · split <;> simp
@[simp] theorem State.generateFor_port (s : State) (i : StationId) :
    (s.generateFor i).port = s.port := by
  simp only [State.generateFor]; split
  · rfl
  · split <;> simp
@[simp] theorem State.generateFor_line (s : State) (i : StationId) :
    (s.generateFor i).line = s.line := by
  simp only [State.generateFor]; split
  · rfl
  · split <;> simp
@[simp] theorem State.generateFor_engine (s : State) (i : StationId) :
    (s.generateFor i).engine = s.engine := by
  simp only [State.generateFor]; split
  · rfl
  · split <;> simp
@[simp] theorem State.generateFor_sched (s : State) (i : StationId) :
    (s.generateFor i).sched = s.sched := by
  simp only [State.generateFor]; split
  · rfl
  · split <;> simp
@[simp] theorem State.generateFor_attempt (s : State) (i : StationId) :
    (s.generateFor i).attempt = s.attempt := by
  simp only [State.generateFor]; split
  · rfl
  · split <;> simp
@[simp] theorem State.generateFor_inbound (s : State) (i : StationId) :
    (s.generateFor i).inbound = s.inbound := by
  simp only [State.generateFor]; split
  · rfl
  · split <;> simp
@[simp] theorem State.generateFor_reports (s : State) (i : StationId) :
    (s.generateFor i).reports = s.reports := by
  simp only [State.generateFor]; split
  · rfl
  · split <;> simp
@[simp] theorem State.generateFor_events (s : State) (i : StationId) :
    (s.generateFor i).events = s.events := by
  simp only [State.generateFor]; split
  · rfl
  · split <;> simp

/-! ### generate: writes txns, stations -/

@[simp] theorem State.generate_now (s : State) (l : List StationId) :
    (s.generate l).now = s.now := by
  induction l generalizing s with
  | nil => rfl
  | cons i rest ih => simp [State.generate, ih]
@[simp] theorem State.generate_pending (s : State) (l : List StationId) :
    (s.generate l).pending = s.pending := by
  induction l generalizing s with
  | nil => rfl
  | cons i rest ih => simp [State.generate, ih]
@[simp] theorem State.generate_hold (s : State) (l : List StationId) :
    (s.generate l).hold = s.hold := by
  induction l generalizing s with
  | nil => rfl
  | cons i rest ih => simp [State.generate, ih]
@[simp] theorem State.generate_port (s : State) (l : List StationId) :
    (s.generate l).port = s.port := by
  induction l generalizing s with
  | nil => rfl
  | cons i rest ih => simp [State.generate, ih]
@[simp] theorem State.generate_line (s : State) (l : List StationId) :
    (s.generate l).line = s.line := by
  induction l generalizing s with
  | nil => rfl
  | cons i rest ih => simp [State.generate, ih]
@[simp] theorem State.generate_engine (s : State) (l : List StationId) :
    (s.generate l).engine = s.engine := by
  induction l generalizing s with
  | nil => rfl
  | cons i rest ih => simp [State.generate, ih]
@[simp] theorem State.generate_sched (s : State) (l : List StationId) :
    (s.generate l).sched = s.sched := by
  induction l generalizing s with
  | nil => rfl
  | cons i rest ih => simp [State.generate, ih]
@[simp] theorem State.generate_attempt (s : State) (l : List StationId) :
    (s.generate l).attempt = s.attempt := by
  induction l generalizing s with
  | nil => rfl
  | cons i rest ih => simp [State.generate, ih]
@[simp] theorem State.generate_inbound (s : State) (l : List StationId) :
    (s.generate l).inbound = s.inbound := by
  induction l generalizing s with
  | nil => rfl
  | cons i rest ih => simp [State.generate, ih]
@[simp] theorem State.generate_reports (s : State) (l : List StationId) :
    (s.generate l).reports = s.reports := by
  induction l generalizing s with
  | nil => rfl
  | cons i rest ih => simp [State.generate, ih]
@[simp] theorem State.generate_events (s : State) (l : List StationId) :
    (s.generate l).events = s.events := by
  induction l generalizing s with
  | nil => rfl
  | cons i rest ih => simp [State.generate, ih]

/-! ### sendSync: writes line -/

@[simp] theorem State.sendSync_now (s : State) :
    (s.sendSync).now = s.now := rfl
@[simp] theorem State.sendSync_pending (s : State) :
    (s.sendSync).pending = s.pending := rfl
@[simp] theorem State.sendSync_hold (s : State) :
    (s.sendSync).hold = s.hold := rfl
@[simp] theorem State.sendSync_port (s : State) :
    (s.sendSync).port = s.port := rfl
@[simp] theorem State.sendSync_engine (s : State) :
    (s.sendSync).engine = s.engine := rfl
@[simp] theorem State.sendSync_txns (s : State) :
    (s.sendSync).txns = s.txns := rfl
@[simp] theorem State.sendSync_sched (s : State) :
    (s.sendSync).sched = s.sched := rfl
@[simp] theorem State.sendSync_attempt (s : State) :
    (s.sendSync).attempt = s.attempt := rfl
@[simp] theorem State.sendSync_stations (s : State) :
    (s.sendSync).stations = s.stations := rfl
@[simp] theorem State.sendSync_inbound (s : State) :
    (s.sendSync).inbound = s.inbound := rfl
@[simp] theorem State.sendSync_reports (s : State) :
    (s.sendSync).reports = s.reports := rfl
@[simp] theorem State.sendSync_events (s : State) :
    (s.sendSync).events = s.events := rfl

/-! ### layRound: writes engine -/

@[simp] theorem State.layRound_now (s : State) :
    (s.layRound).now = s.now := rfl
@[simp] theorem State.layRound_pending (s : State) :
    (s.layRound).pending = s.pending := rfl
@[simp] theorem State.layRound_hold (s : State) :
    (s.layRound).hold = s.hold := rfl
@[simp] theorem State.layRound_port (s : State) :
    (s.layRound).port = s.port := rfl
@[simp] theorem State.layRound_line (s : State) :
    (s.layRound).line = s.line := rfl
@[simp] theorem State.layRound_txns (s : State) :
    (s.layRound).txns = s.txns := rfl
@[simp] theorem State.layRound_sched (s : State) :
    (s.layRound).sched = s.sched := rfl
@[simp] theorem State.layRound_attempt (s : State) :
    (s.layRound).attempt = s.attempt := rfl
@[simp] theorem State.layRound_stations (s : State) :
    (s.layRound).stations = s.stations := rfl
@[simp] theorem State.layRound_inbound (s : State) :
    (s.layRound).inbound = s.inbound := rfl
@[simp] theorem State.layRound_reports (s : State) :
    (s.layRound).reports = s.reports := rfl
@[simp] theorem State.layRound_events (s : State) :
    (s.layRound).events = s.events := rfl

/-! ### enterRunning: writes engine, reports, events -/

@[simp] theorem State.enterRunning_now (s : State) :
    (s.enterRunning).now = s.now := by
  simp only [State.enterRunning]; split <;> simp
@[simp] theorem State.enterRunning_pending (s : State) :
    (s.enterRunning).pending = s.pending := by
  simp only [State.enterRunning]; split <;> simp
@[simp] theorem State.enterRunning_hold (s : State) :
    (s.enterRunning).hold = s.hold := by
  simp only [State.enterRunning]; split <;> simp
@[simp] theorem State.enterRunning_port (s : State) :
    (s.enterRunning).port = s.port := by
  simp only [State.enterRunning]; split <;> simp
@[simp] theorem State.enterRunning_line (s : State) :
    (s.enterRunning).line = s.line := by
  simp only [State.enterRunning]; split <;> simp
@[simp] theorem State.enterRunning_txns (s : State) :
    (s.enterRunning).txns = s.txns := by
  simp only [State.enterRunning]; split <;> simp
@[simp] theorem State.enterRunning_sched (s : State) :
    (s.enterRunning).sched = s.sched := by
  simp only [State.enterRunning]; split <;> simp
@[simp] theorem State.enterRunning_attempt (s : State) :
    (s.enterRunning).attempt = s.attempt := by
  simp only [State.enterRunning]; split <;> simp
@[simp] theorem State.enterRunning_stations (s : State) :
    (s.enterRunning).stations = s.stations := by
  simp only [State.enterRunning]; split <;> simp
@[simp] theorem State.enterRunning_inbound (s : State) :
    (s.enterRunning).inbound = s.inbound := by
  simp only [State.enterRunning]; split <;> simp

/-! ### startRound: writes line, engine, txns, stations, reports, events -/

@[simp] theorem State.startRound_now (s : State) (missing : Bool) :
    (s.startRound missing).now = s.now := by
  simp only [State.startRound]; split <;> simp
@[simp] theorem State.startRound_pending (s : State) (missing : Bool) :
    (s.startRound missing).pending = s.pending := by
  simp only [State.startRound]; split <;> simp
@[simp] theorem State.startRound_hold (s : State) (missing : Bool) :
    (s.startRound missing).hold = s.hold := by
  simp only [State.startRound]; split <;> simp
@[simp] theorem State.startRound_port (s : State) (missing : Bool) :
    (s.startRound missing).port = s.port := by
  simp only [State.startRound]; split <;> simp
@[simp] theorem State.startRound_sched (s : State) (missing : Bool) :
    (s.startRound missing).sched = s.sched := by
  simp only [State.startRound]; split <;> simp
@[simp] theorem State.startRound_attempt (s : State) (missing : Bool) :
    (s.startRound missing).attempt = s.attempt := by
  simp only [State.startRound]; split <;> simp
@[simp] theorem State.startRound_inbound (s : State) (missing : Bool) :
    (s.startRound missing).inbound = s.inbound := by
  simp only [State.startRound]; split <;> simp

/-! ### settleExpired: writes line, engine, txns, stations, reports, events -/

@[simp] theorem State.settleExpired_now (s : State) :
    (s.settleExpired).now = s.now := by
  simp only [State.settleExpired]; split <;> simp
@[simp] theorem State.settleExpired_pending (s : State) :
    (s.settleExpired).pending = s.pending := by
  simp only [State.settleExpired]; split <;> simp
@[simp] theorem State.settleExpired_hold (s : State) :
    (s.settleExpired).hold = s.hold := by
  simp only [State.settleExpired]; split <;> simp
@[simp] theorem State.settleExpired_port (s : State) :
    (s.settleExpired).port = s.port := by
  simp only [State.settleExpired]; split <;> simp
@[simp] theorem State.settleExpired_sched (s : State) :
    (s.settleExpired).sched = s.sched := by
  simp only [State.settleExpired]; split <;> simp
@[simp] theorem State.settleExpired_attempt (s : State) :
    (s.settleExpired).attempt = s.attempt := by
  simp only [State.settleExpired]; split <;> simp
@[simp] theorem State.settleExpired_inbound (s : State) :
    (s.settleExpired).inbound = s.inbound := by
  simp only [State.settleExpired]; split <;> simp

/-! ### acceptEdge: writes engine -/

@[simp] theorem State.acceptEdge_now (s : State) :
    (s.acceptEdge).now = s.now := rfl
@[simp] theorem State.acceptEdge_pending (s : State) :
    (s.acceptEdge).pending = s.pending := rfl
@[simp] theorem State.acceptEdge_hold (s : State) :
    (s.acceptEdge).hold = s.hold := rfl
@[simp] theorem State.acceptEdge_port (s : State) :
    (s.acceptEdge).port = s.port := rfl
@[simp] theorem State.acceptEdge_line (s : State) :
    (s.acceptEdge).line = s.line := rfl
@[simp] theorem State.acceptEdge_txns (s : State) :
    (s.acceptEdge).txns = s.txns := rfl
@[simp] theorem State.acceptEdge_sched (s : State) :
    (s.acceptEdge).sched = s.sched := rfl
@[simp] theorem State.acceptEdge_attempt (s : State) :
    (s.acceptEdge).attempt = s.attempt := rfl
@[simp] theorem State.acceptEdge_stations (s : State) :
    (s.acceptEdge).stations = s.stations := rfl
@[simp] theorem State.acceptEdge_inbound (s : State) :
    (s.acceptEdge).inbound = s.inbound := rfl
@[simp] theorem State.acceptEdge_reports (s : State) :
    (s.acceptEdge).reports = s.reports := rfl
@[simp] theorem State.acceptEdge_events (s : State) :
    (s.acceptEdge).events = s.events := rfl

/-! ### trigEdge: writes engine, reports, events -/

@[simp] theorem State.trigEdge_now (s : State) :
    (s.trigEdge).now = s.now := by
  simp only [State.trigEdge]; split
  · rfl
  · split <;> simp
  · split
    · rfl
    · split <;> simp
  · rfl
  · rfl
  · rfl
@[simp] theorem State.trigEdge_pending (s : State) :
    (s.trigEdge).pending = s.pending := by
  simp only [State.trigEdge]; split
  · rfl
  · split <;> simp
  · split
    · rfl
    · split <;> simp
  · rfl
  · rfl
  · rfl
@[simp] theorem State.trigEdge_hold (s : State) :
    (s.trigEdge).hold = s.hold := by
  simp only [State.trigEdge]; split
  · rfl
  · split <;> simp
  · split
    · rfl
    · split <;> simp
  · rfl
  · rfl
  · rfl
@[simp] theorem State.trigEdge_port (s : State) :
    (s.trigEdge).port = s.port := by
  simp only [State.trigEdge]; split
  · rfl
  · split <;> simp
  · split
    · rfl
    · split <;> simp
  · rfl
  · rfl
  · rfl
@[simp] theorem State.trigEdge_line (s : State) :
    (s.trigEdge).line = s.line := by
  simp only [State.trigEdge]; split
  · rfl
  · split <;> simp
  · split
    · rfl
    · split <;> simp
  · rfl
  · rfl
  · rfl
@[simp] theorem State.trigEdge_txns (s : State) :
    (s.trigEdge).txns = s.txns := by
  simp only [State.trigEdge]; split
  · rfl
  · split <;> simp
  · split
    · rfl
    · split <;> simp
  · rfl
  · rfl
  · rfl
@[simp] theorem State.trigEdge_sched (s : State) :
    (s.trigEdge).sched = s.sched := by
  simp only [State.trigEdge]; split
  · rfl
  · split <;> simp
  · split
    · rfl
    · split <;> simp
  · rfl
  · rfl
  · rfl
@[simp] theorem State.trigEdge_attempt (s : State) :
    (s.trigEdge).attempt = s.attempt := by
  simp only [State.trigEdge]; split
  · rfl
  · split <;> simp
  · split
    · rfl
    · split <;> simp
  · rfl
  · rfl
  · rfl
@[simp] theorem State.trigEdge_stations (s : State) :
    (s.trigEdge).stations = s.stations := by
  simp only [State.trigEdge]; split
  · rfl
  · split <;> simp
  · split
    · rfl
    · split <;> simp
  · rfl
  · rfl
  · rfl
@[simp] theorem State.trigEdge_inbound (s : State) :
    (s.trigEdge).inbound = s.inbound := by
  simp only [State.trigEdge]; split
  · rfl
  · split <;> simp
  · split
    · rfl
    · split <;> simp
  · rfl
  · rfl
  · rfl

/-! ### sendSegment: writes engine, line -/

@[simp] theorem State.sendSegment_now (s : State) :
    (s.sendSegment).now = s.now := by
  simp only [State.sendSegment]; split
  · split <;> simp
  · rfl
@[simp] theorem State.sendSegment_pending (s : State) :
    (s.sendSegment).pending = s.pending := by
  simp only [State.sendSegment]; split
  · split <;> simp
  · rfl
@[simp] theorem State.sendSegment_hold (s : State) :
    (s.sendSegment).hold = s.hold := by
  simp only [State.sendSegment]; split
  · split <;> simp
  · rfl
@[simp] theorem State.sendSegment_port (s : State) :
    (s.sendSegment).port = s.port := by
  simp only [State.sendSegment]; split
  · split <;> simp
  · rfl
@[simp] theorem State.sendSegment_txns (s : State) :
    (s.sendSegment).txns = s.txns := by
  simp only [State.sendSegment]; split
  · split <;> simp
  · rfl
@[simp] theorem State.sendSegment_sched (s : State) :
    (s.sendSegment).sched = s.sched := by
  simp only [State.sendSegment]; split
  · split <;> simp
  · rfl
@[simp] theorem State.sendSegment_attempt (s : State) :
    (s.sendSegment).attempt = s.attempt := by
  simp only [State.sendSegment]; split
  · split <;> simp
  · rfl
@[simp] theorem State.sendSegment_stations (s : State) :
    (s.sendSegment).stations = s.stations := by
  simp only [State.sendSegment]; split
  · split <;> simp
  · rfl
@[simp] theorem State.sendSegment_inbound (s : State) :
    (s.sendSegment).inbound = s.inbound := by
  simp only [State.sendSegment]; split
  · split <;> simp
  · rfl
@[simp] theorem State.sendSegment_reports (s : State) :
    (s.sendSegment).reports = s.reports := by
  simp only [State.sendSegment]; split
  · split <;> simp
  · rfl
@[simp] theorem State.sendSegment_events (s : State) :
    (s.sendSegment).events = s.events := by
  simp only [State.sendSegment]; split
  · split <;> simp
  · rfl

/-! ### openGap: writes engine, txns, attempt, line, sched, reports, events -/

@[simp] theorem State.openGap_now (s : State) :
    (s.openGap).now = s.now := by
  simp only [State.openGap]; split <;> simp
@[simp] theorem State.openGap_pending (s : State) :
    (s.openGap).pending = s.pending := by
  simp only [State.openGap]; split <;> simp
@[simp] theorem State.openGap_hold (s : State) :
    (s.openGap).hold = s.hold := by
  simp only [State.openGap]; split <;> simp
@[simp] theorem State.openGap_port (s : State) :
    (s.openGap).port = s.port := by
  simp only [State.openGap]; split <;> simp
@[simp] theorem State.openGap_stations (s : State) :
    (s.openGap).stations = s.stations := by
  simp only [State.openGap]; split <;> simp
@[simp] theorem State.openGap_inbound (s : State) :
    (s.openGap).inbound = s.inbound := by
  simp only [State.openGap]; split <;> simp

end Sys2Proof.Machine
end

