-- ==== Sys2Proof/Laws/TurnsFrame.lean ====
section
/-! SUPPORT. The frame of the operations of the line and the turn: every field of the state that the operation leaves as it was. -/

namespace Sys2Proof.Machine

/-! ### setPhase: writes attempt -/

@[simp] theorem State.setPhase_now (s : State) (a : Attempt) (p : Phase) :
    (s.setPhase a p).now = s.now := rfl
@[simp] theorem State.setPhase_pending (s : State) (a : Attempt) (p : Phase) :
    (s.setPhase a p).pending = s.pending := rfl
@[simp] theorem State.setPhase_hold (s : State) (a : Attempt) (p : Phase) :
    (s.setPhase a p).hold = s.hold := rfl
@[simp] theorem State.setPhase_port (s : State) (a : Attempt) (p : Phase) :
    (s.setPhase a p).port = s.port := rfl
@[simp] theorem State.setPhase_line (s : State) (a : Attempt) (p : Phase) :
    (s.setPhase a p).line = s.line := rfl
@[simp] theorem State.setPhase_engine (s : State) (a : Attempt) (p : Phase) :
    (s.setPhase a p).engine = s.engine := rfl
@[simp] theorem State.setPhase_txns (s : State) (a : Attempt) (p : Phase) :
    (s.setPhase a p).txns = s.txns := rfl
@[simp] theorem State.setPhase_sched (s : State) (a : Attempt) (p : Phase) :
    (s.setPhase a p).sched = s.sched := rfl
@[simp] theorem State.setPhase_stations (s : State) (a : Attempt) (p : Phase) :
    (s.setPhase a p).stations = s.stations := rfl
@[simp] theorem State.setPhase_inbound (s : State) (a : Attempt) (p : Phase) :
    (s.setPhase a p).inbound = s.inbound := rfl
@[simp] theorem State.setPhase_reports (s : State) (a : Attempt) (p : Phase) :
    (s.setPhase a p).reports = s.reports := rfl
@[simp] theorem State.setPhase_events (s : State) (a : Attempt) (p : Phase) :
    (s.setPhase a p).events = s.events := rfl

/-! ### frameSent: writes attempt, stations, inbound, txns, reports, events, line, sched -/

@[simp] theorem State.frameSent_now (s : State) (f : SendFrame) :
    (s.frameSent f).now = s.now := by
  simp only [State.frameSent]; split
  · simp
  · split
    · simp
    · split <;> simp
@[simp] theorem State.frameSent_pending (s : State) (f : SendFrame) :
    (s.frameSent f).pending = s.pending := by
  simp only [State.frameSent]; split
  · simp
  · split
    · simp
    · split <;> simp
@[simp] theorem State.frameSent_hold (s : State) (f : SendFrame) :
    (s.frameSent f).hold = s.hold := by
  simp only [State.frameSent]; split
  · simp
  · split
    · simp
    · split <;> simp
@[simp] theorem State.frameSent_port (s : State) (f : SendFrame) :
    (s.frameSent f).port = s.port := by
  simp only [State.frameSent]; split
  · simp
  · split
    · simp
    · split <;> simp
@[simp] theorem State.frameSent_engine (s : State) (f : SendFrame) :
    (s.frameSent f).engine = s.engine := by
  simp only [State.frameSent]; split
  · simp
  · split
    · simp
    · split <;> simp

/-! ### countContention: writes line, reports, events -/

@[simp] theorem State.countContention_now (s : State) (f : SendFrame) :
    (s.countContention f).now = s.now := by simp [State.countContention]
@[simp] theorem State.countContention_pending (s : State) (f : SendFrame) :
    (s.countContention f).pending = s.pending := by simp [State.countContention]
@[simp] theorem State.countContention_hold (s : State) (f : SendFrame) :
    (s.countContention f).hold = s.hold := by simp [State.countContention]
@[simp] theorem State.countContention_port (s : State) (f : SendFrame) :
    (s.countContention f).port = s.port := by simp [State.countContention]
@[simp] theorem State.countContention_engine (s : State) (f : SendFrame) :
    (s.countContention f).engine = s.engine := by simp [State.countContention]
@[simp] theorem State.countContention_txns (s : State) (f : SendFrame) :
    (s.countContention f).txns = s.txns := by simp [State.countContention]
@[simp] theorem State.countContention_sched (s : State) (f : SendFrame) :
    (s.countContention f).sched = s.sched := by simp [State.countContention]
@[simp] theorem State.countContention_attempt (s : State) (f : SendFrame) :
    (s.countContention f).attempt = s.attempt := by simp [State.countContention]
@[simp] theorem State.countContention_stations (s : State) (f : SendFrame) :
    (s.countContention f).stations = s.stations := by simp [State.countContention]
@[simp] theorem State.countContention_inbound (s : State) (f : SendFrame) :
    (s.countContention f).inbound = s.inbound := by simp [State.countContention]

/-! ### abortFrame: writes line, attempt -/

@[simp] theorem State.abortFrame_now (s : State) (f : SendFrame) :
    (s.abortFrame f).now = s.now := by
  simp only [State.abortFrame]; split
  · split <;> simp
  · simp
@[simp] theorem State.abortFrame_pending (s : State) (f : SendFrame) :
    (s.abortFrame f).pending = s.pending := by
  simp only [State.abortFrame]; split
  · split <;> simp
  · simp
@[simp] theorem State.abortFrame_hold (s : State) (f : SendFrame) :
    (s.abortFrame f).hold = s.hold := by
  simp only [State.abortFrame]; split
  · split <;> simp
  · simp
@[simp] theorem State.abortFrame_port (s : State) (f : SendFrame) :
    (s.abortFrame f).port = s.port := by
  simp only [State.abortFrame]; split
  · split <;> simp
  · simp
@[simp] theorem State.abortFrame_engine (s : State) (f : SendFrame) :
    (s.abortFrame f).engine = s.engine := by
  simp only [State.abortFrame]; split
  · split <;> simp
  · simp
@[simp] theorem State.abortFrame_txns (s : State) (f : SendFrame) :
    (s.abortFrame f).txns = s.txns := by
  simp only [State.abortFrame]; split
  · split <;> simp
  · simp
@[simp] theorem State.abortFrame_sched (s : State) (f : SendFrame) :
    (s.abortFrame f).sched = s.sched := by
  simp only [State.abortFrame]; split
  · split <;> simp
  · simp
@[simp] theorem State.abortFrame_stations (s : State) (f : SendFrame) :
    (s.abortFrame f).stations = s.stations := by
  simp only [State.abortFrame]; split
  · split <;> simp
  · simp
@[simp] theorem State.abortFrame_inbound (s : State) (f : SendFrame) :
    (s.abortFrame f).inbound = s.inbound := by
  simp only [State.abortFrame]; split
  · split <;> simp
  · simp
@[simp] theorem State.abortFrame_reports (s : State) (f : SendFrame) :
    (s.abortFrame f).reports = s.reports := by
  simp only [State.abortFrame]; split
  · split <;> simp
  · simp
@[simp] theorem State.abortFrame_events (s : State) (f : SendFrame) :
    (s.abortFrame f).events = s.events := by
  simp only [State.abortFrame]; split
  · split <;> simp
  · simp

/-! ### contend: writes line, attempt, reports, events -/

@[simp] theorem State.contend_now (s : State) :
    (s.contend).now = s.now := by
  simp only [State.contend]; split
  · split
    · rfl
    · split <;> simp
  all_goals rfl
@[simp] theorem State.contend_pending (s : State) :
    (s.contend).pending = s.pending := by
  simp only [State.contend]; split
  · split
    · rfl
    · split <;> simp
  all_goals rfl
@[simp] theorem State.contend_hold (s : State) :
    (s.contend).hold = s.hold := by
  simp only [State.contend]; split
  · split
    · rfl
    · split <;> simp
  all_goals rfl
@[simp] theorem State.contend_port (s : State) :
    (s.contend).port = s.port := by
  simp only [State.contend]; split
  · split
    · rfl
    · split <;> simp
  all_goals rfl
@[simp] theorem State.contend_engine (s : State) :
    (s.contend).engine = s.engine := by
  simp only [State.contend]; split
  · split
    · rfl
    · split <;> simp
  all_goals rfl
@[simp] theorem State.contend_txns (s : State) :
    (s.contend).txns = s.txns := by
  simp only [State.contend]; split
  · split
    · rfl
    · split <;> simp
  all_goals rfl
@[simp] theorem State.contend_sched (s : State) :
    (s.contend).sched = s.sched := by
  simp only [State.contend]; split
  · split
    · rfl
    · split <;> simp
  all_goals rfl
@[simp] theorem State.contend_stations (s : State) :
    (s.contend).stations = s.stations := by
  simp only [State.contend]; split
  · split
    · rfl
    · split <;> simp
  all_goals rfl
@[simp] theorem State.contend_inbound (s : State) :
    (s.contend).inbound = s.inbound := by
  simp only [State.contend]; split
  · split
    · rfl
    · split <;> simp
  all_goals rfl

/-! ### guardEnded: writes attempt -/

@[simp] theorem State.guardEnded_now (s : State) :
    (s.guardEnded).now = s.now := by
  simp only [State.guardEnded]; split
  · split <;> simp
  · rfl
@[simp] theorem State.guardEnded_pending (s : State) :
    (s.guardEnded).pending = s.pending := by
  simp only [State.guardEnded]; split
  · split <;> simp
  · rfl
@[simp] theorem State.guardEnded_hold (s : State) :
    (s.guardEnded).hold = s.hold := by
  simp only [State.guardEnded]; split
  · split <;> simp
  · rfl
@[simp] theorem State.guardEnded_port (s : State) :
    (s.guardEnded).port = s.port := by
  simp only [State.guardEnded]; split
  · split <;> simp
  · rfl
@[simp] theorem State.guardEnded_line (s : State) :
    (s.guardEnded).line = s.line := by
  simp only [State.guardEnded]; split
  · split <;> simp
  · rfl
@[simp] theorem State.guardEnded_engine (s : State) :
    (s.guardEnded).engine = s.engine := by
  simp only [State.guardEnded]; split
  · split <;> simp
  · rfl
@[simp] theorem State.guardEnded_txns (s : State) :
    (s.guardEnded).txns = s.txns := by
  simp only [State.guardEnded]; split
  · split <;> simp
  · rfl
@[simp] theorem State.guardEnded_sched (s : State) :
    (s.guardEnded).sched = s.sched := by
  simp only [State.guardEnded]; split
  · split <;> simp
  · rfl
@[simp] theorem State.guardEnded_stations (s : State) :
    (s.guardEnded).stations = s.stations := by
  simp only [State.guardEnded]; split
  · split <;> simp
  · rfl
@[simp] theorem State.guardEnded_inbound (s : State) :
    (s.guardEnded).inbound = s.inbound := by
  simp only [State.guardEnded]; split
  · split <;> simp
  · rfl
@[simp] theorem State.guardEnded_reports (s : State) :
    (s.guardEnded).reports = s.reports := by
  simp only [State.guardEnded]; split
  · split <;> simp
  · rfl
@[simp] theorem State.guardEnded_events (s : State) :
    (s.guardEnded).events = s.events := by
  simp only [State.guardEnded]; split
  · split <;> simp
  · rfl

/-! ### stationStart: writes line, attempt -/

@[simp] theorem State.stationStart_now (s : State) :
    (s.stationStart).now = s.now := by
  simp only [State.stationStart]; split <;> simp
@[simp] theorem State.stationStart_pending (s : State) :
    (s.stationStart).pending = s.pending := by
  simp only [State.stationStart]; split <;> simp
@[simp] theorem State.stationStart_hold (s : State) :
    (s.stationStart).hold = s.hold := by
  simp only [State.stationStart]; split <;> simp
@[simp] theorem State.stationStart_port (s : State) :
    (s.stationStart).port = s.port := by
  simp only [State.stationStart]; split <;> simp
@[simp] theorem State.stationStart_engine (s : State) :
    (s.stationStart).engine = s.engine := by
  simp only [State.stationStart]; split <;> simp
@[simp] theorem State.stationStart_txns (s : State) :
    (s.stationStart).txns = s.txns := by
  simp only [State.stationStart]; split <;> simp
@[simp] theorem State.stationStart_sched (s : State) :
    (s.stationStart).sched = s.sched := by
  simp only [State.stationStart]; split <;> simp
@[simp] theorem State.stationStart_stations (s : State) :
    (s.stationStart).stations = s.stations := by
  simp only [State.stationStart]; split <;> simp
@[simp] theorem State.stationStart_inbound (s : State) :
    (s.stationStart).inbound = s.inbound := by
  simp only [State.stationStart]; split <;> simp
@[simp] theorem State.stationStart_reports (s : State) :
    (s.stationStart).reports = s.reports := by
  simp only [State.stationStart]; split <;> simp
@[simp] theorem State.stationStart_events (s : State) :
    (s.stationStart).events = s.events := by
  simp only [State.stationStart]; split <;> simp

/-! ### responseExpired: writes line, attempt -/

@[simp] theorem State.responseExpired_now (s : State) :
    (s.responseExpired).now = s.now := by
  simp only [State.responseExpired]; split <;> simp
@[simp] theorem State.responseExpired_pending (s : State) :
    (s.responseExpired).pending = s.pending := by
  simp only [State.responseExpired]; split <;> simp
@[simp] theorem State.responseExpired_hold (s : State) :
    (s.responseExpired).hold = s.hold := by
  simp only [State.responseExpired]; split <;> simp
@[simp] theorem State.responseExpired_port (s : State) :
    (s.responseExpired).port = s.port := by
  simp only [State.responseExpired]; split <;> simp
@[simp] theorem State.responseExpired_engine (s : State) :
    (s.responseExpired).engine = s.engine := by
  simp only [State.responseExpired]; split <;> simp
@[simp] theorem State.responseExpired_txns (s : State) :
    (s.responseExpired).txns = s.txns := by
  simp only [State.responseExpired]; split <;> simp
@[simp] theorem State.responseExpired_sched (s : State) :
    (s.responseExpired).sched = s.sched := by
  simp only [State.responseExpired]; split <;> simp
@[simp] theorem State.responseExpired_stations (s : State) :
    (s.responseExpired).stations = s.stations := by
  simp only [State.responseExpired]; split <;> simp
@[simp] theorem State.responseExpired_inbound (s : State) :
    (s.responseExpired).inbound = s.inbound := by
  simp only [State.responseExpired]; split <;> simp
@[simp] theorem State.responseExpired_reports (s : State) :
    (s.responseExpired).reports = s.reports := by
  simp only [State.responseExpired]; split <;> simp
@[simp] theorem State.responseExpired_events (s : State) :
    (s.responseExpired).events = s.events := by
  simp only [State.responseExpired]; split <;> simp

/-! ### deliver: writes line, attempt -/

@[simp] theorem State.deliver_now (s : State) (bytes : Bytes) (e : FrameEnd) :
    (s.deliver bytes e).now = s.now := by
  simp only [State.deliver]; split
  · rfl
  · split <;> simp
@[simp] theorem State.deliver_pending (s : State) (bytes : Bytes) (e : FrameEnd) :
    (s.deliver bytes e).pending = s.pending := by
  simp only [State.deliver]; split
  · rfl
  · split <;> simp
@[simp] theorem State.deliver_hold (s : State) (bytes : Bytes) (e : FrameEnd) :
    (s.deliver bytes e).hold = s.hold := by
  simp only [State.deliver]; split
  · rfl
  · split <;> simp
@[simp] theorem State.deliver_port (s : State) (bytes : Bytes) (e : FrameEnd) :
    (s.deliver bytes e).port = s.port := by
  simp only [State.deliver]; split
  · rfl
  · split <;> simp
@[simp] theorem State.deliver_engine (s : State) (bytes : Bytes) (e : FrameEnd) :
    (s.deliver bytes e).engine = s.engine := by
  simp only [State.deliver]; split
  · rfl
  · split <;> simp
@[simp] theorem State.deliver_txns (s : State) (bytes : Bytes) (e : FrameEnd) :
    (s.deliver bytes e).txns = s.txns := by
  simp only [State.deliver]; split
  · rfl
  · split <;> simp
@[simp] theorem State.deliver_sched (s : State) (bytes : Bytes) (e : FrameEnd) :
    (s.deliver bytes e).sched = s.sched := by
  simp only [State.deliver]; split
  · rfl
  · split <;> simp
@[simp] theorem State.deliver_stations (s : State) (bytes : Bytes) (e : FrameEnd) :
    (s.deliver bytes e).stations = s.stations := by
  simp only [State.deliver]; split
  · rfl
  · split <;> simp
@[simp] theorem State.deliver_inbound (s : State) (bytes : Bytes) (e : FrameEnd) :
    (s.deliver bytes e).inbound = s.inbound := by
  simp only [State.deliver]; split
  · rfl
  · split <;> simp
@[simp] theorem State.deliver_reports (s : State) (bytes : Bytes) (e : FrameEnd) :
    (s.deliver bytes e).reports = s.reports := by
  simp only [State.deliver]; split
  · rfl
  · split <;> simp
@[simp] theorem State.deliver_events (s : State) (bytes : Bytes) (e : FrameEnd) :
    (s.deliver bytes e).events = s.events := by
  simp only [State.deliver]; split
  · rfl
  · split <;> simp

/-! ### talkExpired: writes line, attempt -/

@[simp] theorem State.talkExpired_now (s : State) :
    (s.talkExpired).now = s.now := by
  simp only [State.talkExpired]; split <;> simp
@[simp] theorem State.talkExpired_pending (s : State) :
    (s.talkExpired).pending = s.pending := by
  simp only [State.talkExpired]; split <;> simp
@[simp] theorem State.talkExpired_hold (s : State) :
    (s.talkExpired).hold = s.hold := by
  simp only [State.talkExpired]; split <;> simp
@[simp] theorem State.talkExpired_port (s : State) :
    (s.talkExpired).port = s.port := by
  simp only [State.talkExpired]; split <;> simp
@[simp] theorem State.talkExpired_engine (s : State) :
    (s.talkExpired).engine = s.engine := by
  simp only [State.talkExpired]; split <;> simp
@[simp] theorem State.talkExpired_txns (s : State) :
    (s.talkExpired).txns = s.txns := by
  simp only [State.talkExpired]; split <;> simp
@[simp] theorem State.talkExpired_sched (s : State) :
    (s.talkExpired).sched = s.sched := by
  simp only [State.talkExpired]; split <;> simp
@[simp] theorem State.talkExpired_stations (s : State) :
    (s.talkExpired).stations = s.stations := by
  simp only [State.talkExpired]; split <;> simp
@[simp] theorem State.talkExpired_inbound (s : State) :
    (s.talkExpired).inbound = s.inbound := by
  simp only [State.talkExpired]; split <;> simp
@[simp] theorem State.talkExpired_reports (s : State) :
    (s.talkExpired).reports = s.reports := by
  simp only [State.talkExpired]; split <;> simp
@[simp] theorem State.talkExpired_events (s : State) :
    (s.talkExpired).events = s.events := by
  simp only [State.talkExpired]; split <;> simp

/-! ### reclaimed: writes attempt, stations, inbound, txns, reports, events, line, sched -/

@[simp] theorem State.reclaimed_now (s : State) :
    (s.reclaimed).now = s.now := by
  simp only [State.reclaimed]; split <;> simp
@[simp] theorem State.reclaimed_pending (s : State) :
    (s.reclaimed).pending = s.pending := by
  simp only [State.reclaimed]; split <;> simp
@[simp] theorem State.reclaimed_hold (s : State) :
    (s.reclaimed).hold = s.hold := by
  simp only [State.reclaimed]; split <;> simp
@[simp] theorem State.reclaimed_port (s : State) :
    (s.reclaimed).port = s.port := by
  simp only [State.reclaimed]; split <;> simp
@[simp] theorem State.reclaimed_engine (s : State) :
    (s.reclaimed).engine = s.engine := by
  simp only [State.reclaimed]; split <;> simp

end Sys2Proof.Machine
end

