-- ==== Sys2Proof/Laws/RequestsFrame.lean ====
section
/-! SUPPORT. The frame of the operations of the requests and of the Host Port: every field of the state that the operation leaves as it was. -/

namespace Sys2Proof.Machine

/-! ### beginRun: writes line, engine, txns, reports -/

@[simp] theorem State.beginRun_now (s : State) :
    (s.beginRun).now = s.now := by simp [State.beginRun]
@[simp] theorem State.beginRun_pending (s : State) :
    (s.beginRun).pending = s.pending := by simp [State.beginRun]
@[simp] theorem State.beginRun_hold (s : State) :
    (s.beginRun).hold = s.hold := by simp [State.beginRun]
@[simp] theorem State.beginRun_port (s : State) :
    (s.beginRun).port = s.port := by simp [State.beginRun]
@[simp] theorem State.beginRun_sched (s : State) :
    (s.beginRun).sched = s.sched := by simp [State.beginRun]
@[simp] theorem State.beginRun_attempt (s : State) :
    (s.beginRun).attempt = s.attempt := by simp [State.beginRun]
@[simp] theorem State.beginRun_stations (s : State) :
    (s.beginRun).stations = s.stations := by simp [State.beginRun]
@[simp] theorem State.beginRun_inbound (s : State) :
    (s.beginRun).inbound = s.inbound := by simp [State.beginRun]
@[simp] theorem State.beginRun_events (s : State) :
    (s.beginRun).events = s.events := by simp [State.beginRun]

/-! ### stopRunning: writes line, engine, sched, txns, reports, events -/

@[simp] theorem State.stopRunning_now (s : State) :
    (s.stopRunning).now = s.now := by
  simp only [State.stopRunning]; split <;> simp
@[simp] theorem State.stopRunning_pending (s : State) :
    (s.stopRunning).pending = s.pending := by
  simp only [State.stopRunning]; split <;> simp
@[simp] theorem State.stopRunning_hold (s : State) :
    (s.stopRunning).hold = s.hold := by
  simp only [State.stopRunning]; split <;> simp
@[simp] theorem State.stopRunning_port (s : State) :
    (s.stopRunning).port = s.port := by
  simp only [State.stopRunning]; split <;> simp
@[simp] theorem State.stopRunning_attempt (s : State) :
    (s.stopRunning).attempt = s.attempt := by
  simp only [State.stopRunning]; split <;> simp
@[simp] theorem State.stopRunning_stations (s : State) :
    (s.stopRunning).stations = s.stations := by
  simp only [State.stopRunning]; split <;> simp
@[simp] theorem State.stopRunning_inbound (s : State) :
    (s.stopRunning).inbound = s.inbound := by
  simp only [State.stopRunning]; split <;> simp

/-! ### stop: writes line, engine, sched, txns, reports, events -/

@[simp] theorem State.stop_now (s : State) :
    (s.stop).now = s.now := by
  simp only [State.stop]; split <;> simp
@[simp] theorem State.stop_pending (s : State) :
    (s.stop).pending = s.pending := by
  simp only [State.stop]; split <;> simp
@[simp] theorem State.stop_hold (s : State) :
    (s.stop).hold = s.hold := by
  simp only [State.stop]; split <;> simp
@[simp] theorem State.stop_port (s : State) :
    (s.stop).port = s.port := by
  simp only [State.stop]; split <;> simp
@[simp] theorem State.stop_attempt (s : State) :
    (s.stop).attempt = s.attempt := by
  simp only [State.stop]; split <;> simp
@[simp] theorem State.stop_stations (s : State) :
    (s.stop).stations = s.stations := by
  simp only [State.stop]; split <;> simp
@[simp] theorem State.stop_inbound (s : State) :
    (s.stop).inbound = s.inbound := by
  simp only [State.stop]; split <;> simp

/-! ### setTable: writes engine -/

@[simp] theorem State.setTable_now (s : State) (t : List Segment) :
    (s.setTable t).now = s.now := rfl
@[simp] theorem State.setTable_pending (s : State) (t : List Segment) :
    (s.setTable t).pending = s.pending := rfl
@[simp] theorem State.setTable_hold (s : State) (t : List Segment) :
    (s.setTable t).hold = s.hold := rfl
@[simp] theorem State.setTable_port (s : State) (t : List Segment) :
    (s.setTable t).port = s.port := rfl
@[simp] theorem State.setTable_line (s : State) (t : List Segment) :
    (s.setTable t).line = s.line := rfl
@[simp] theorem State.setTable_txns (s : State) (t : List Segment) :
    (s.setTable t).txns = s.txns := rfl
@[simp] theorem State.setTable_sched (s : State) (t : List Segment) :
    (s.setTable t).sched = s.sched := rfl
@[simp] theorem State.setTable_attempt (s : State) (t : List Segment) :
    (s.setTable t).attempt = s.attempt := rfl
@[simp] theorem State.setTable_stations (s : State) (t : List Segment) :
    (s.setTable t).stations = s.stations := rfl
@[simp] theorem State.setTable_inbound (s : State) (t : List Segment) :
    (s.setTable t).inbound = s.inbound := rfl
@[simp] theorem State.setTable_reports (s : State) (t : List Segment) :
    (s.setTable t).reports = s.reports := rfl
@[simp] theorem State.setTable_events (s : State) (t : List Segment) :
    (s.setTable t).events = s.events := rfl

/-! ### disableStation: writes stations, txns, reports -/

@[simp] theorem State.disableStation_now (s : State) (i : StationId) :
    (s.disableStation i).now = s.now := by simp [State.disableStation]
@[simp] theorem State.disableStation_pending (s : State) (i : StationId) :
    (s.disableStation i).pending = s.pending := by simp [State.disableStation]
@[simp] theorem State.disableStation_hold (s : State) (i : StationId) :
    (s.disableStation i).hold = s.hold := by simp [State.disableStation]
@[simp] theorem State.disableStation_port (s : State) (i : StationId) :
    (s.disableStation i).port = s.port := by simp [State.disableStation]
@[simp] theorem State.disableStation_line (s : State) (i : StationId) :
    (s.disableStation i).line = s.line := by simp [State.disableStation]
@[simp] theorem State.disableStation_engine (s : State) (i : StationId) :
    (s.disableStation i).engine = s.engine := by simp [State.disableStation]
@[simp] theorem State.disableStation_sched (s : State) (i : StationId) :
    (s.disableStation i).sched = s.sched := by simp [State.disableStation]
@[simp] theorem State.disableStation_attempt (s : State) (i : StationId) :
    (s.disableStation i).attempt = s.attempt := by simp [State.disableStation]
@[simp] theorem State.disableStation_inbound (s : State) (i : StationId) :
    (s.disableStation i).inbound = s.inbound := by simp [State.disableStation]
@[simp] theorem State.disableStation_events (s : State) (i : StationId) :
    (s.disableStation i).events = s.events := by simp [State.disableStation]

/-! ### cancelPending: writes txns, reports -/

@[simp] theorem State.cancelPending_now (s : State) (r : Record) :
    (s.cancelPending r).now = s.now := by simp [State.cancelPending]
@[simp] theorem State.cancelPending_pending (s : State) (r : Record) :
    (s.cancelPending r).pending = s.pending := by simp [State.cancelPending]
@[simp] theorem State.cancelPending_hold (s : State) (r : Record) :
    (s.cancelPending r).hold = s.hold := by simp [State.cancelPending]
@[simp] theorem State.cancelPending_port (s : State) (r : Record) :
    (s.cancelPending r).port = s.port := by simp [State.cancelPending]
@[simp] theorem State.cancelPending_line (s : State) (r : Record) :
    (s.cancelPending r).line = s.line := by simp [State.cancelPending]
@[simp] theorem State.cancelPending_engine (s : State) (r : Record) :
    (s.cancelPending r).engine = s.engine := by simp [State.cancelPending]
@[simp] theorem State.cancelPending_sched (s : State) (r : Record) :
    (s.cancelPending r).sched = s.sched := by simp [State.cancelPending]
@[simp] theorem State.cancelPending_attempt (s : State) (r : Record) :
    (s.cancelPending r).attempt = s.attempt := by simp [State.cancelPending]
@[simp] theorem State.cancelPending_stations (s : State) (r : Record) :
    (s.cancelPending r).stations = s.stations := by simp [State.cancelPending]
@[simp] theorem State.cancelPending_inbound (s : State) (r : Record) :
    (s.cancelPending r).inbound = s.inbound := by simp [State.cancelPending]
@[simp] theorem State.cancelPending_events (s : State) (r : Record) :
    (s.cancelPending r).events = s.events := by simp [State.cancelPending]

/-! ### requestCancel: writes txns -/

@[simp] theorem State.requestCancel_now (s : State) (r : Record) :
    (s.requestCancel r).now = s.now := rfl
@[simp] theorem State.requestCancel_pending (s : State) (r : Record) :
    (s.requestCancel r).pending = s.pending := rfl
@[simp] theorem State.requestCancel_hold (s : State) (r : Record) :
    (s.requestCancel r).hold = s.hold := rfl
@[simp] theorem State.requestCancel_port (s : State) (r : Record) :
    (s.requestCancel r).port = s.port := rfl
@[simp] theorem State.requestCancel_line (s : State) (r : Record) :
    (s.requestCancel r).line = s.line := rfl
@[simp] theorem State.requestCancel_engine (s : State) (r : Record) :
    (s.requestCancel r).engine = s.engine := rfl
@[simp] theorem State.requestCancel_sched (s : State) (r : Record) :
    (s.requestCancel r).sched = s.sched := rfl
@[simp] theorem State.requestCancel_attempt (s : State) (r : Record) :
    (s.requestCancel r).attempt = s.attempt := rfl
@[simp] theorem State.requestCancel_stations (s : State) (r : Record) :
    (s.requestCancel r).stations = s.stations := rfl
@[simp] theorem State.requestCancel_inbound (s : State) (r : Record) :
    (s.requestCancel r).inbound = s.inbound := rfl
@[simp] theorem State.requestCancel_reports (s : State) (r : Record) :
    (s.requestCancel r).reports = s.reports := rfl
@[simp] theorem State.requestCancel_events (s : State) (r : Record) :
    (s.requestCancel r).events = s.events := rfl

/-! ### maskOne: writes reports, events -/

@[simp] theorem State.maskOne_now (s : State) (src : SourceId) (m : Bool) :
    (s.maskOne src m).now = s.now := by
  simp only [State.maskOne]; split <;> simp
@[simp] theorem State.maskOne_pending (s : State) (src : SourceId) (m : Bool) :
    (s.maskOne src m).pending = s.pending := by
  simp only [State.maskOne]; split <;> simp
@[simp] theorem State.maskOne_hold (s : State) (src : SourceId) (m : Bool) :
    (s.maskOne src m).hold = s.hold := by
  simp only [State.maskOne]; split <;> simp
@[simp] theorem State.maskOne_port (s : State) (src : SourceId) (m : Bool) :
    (s.maskOne src m).port = s.port := by
  simp only [State.maskOne]; split <;> simp
@[simp] theorem State.maskOne_line (s : State) (src : SourceId) (m : Bool) :
    (s.maskOne src m).line = s.line := by
  simp only [State.maskOne]; split <;> simp
@[simp] theorem State.maskOne_engine (s : State) (src : SourceId) (m : Bool) :
    (s.maskOne src m).engine = s.engine := by
  simp only [State.maskOne]; split <;> simp
@[simp] theorem State.maskOne_txns (s : State) (src : SourceId) (m : Bool) :
    (s.maskOne src m).txns = s.txns := by
  simp only [State.maskOne]; split <;> simp
@[simp] theorem State.maskOne_sched (s : State) (src : SourceId) (m : Bool) :
    (s.maskOne src m).sched = s.sched := by
  simp only [State.maskOne]; split <;> simp
@[simp] theorem State.maskOne_attempt (s : State) (src : SourceId) (m : Bool) :
    (s.maskOne src m).attempt = s.attempt := by
  simp only [State.maskOne]; split <;> simp
@[simp] theorem State.maskOne_stations (s : State) (src : SourceId) (m : Bool) :
    (s.maskOne src m).stations = s.stations := by
  simp only [State.maskOne]; split <;> simp
@[simp] theorem State.maskOne_inbound (s : State) (src : SourceId) (m : Bool) :
    (s.maskOne src m).inbound = s.inbound := by
  simp only [State.maskOne]; split <;> simp

/-! ### maskAll: writes reports, events -/

@[simp] theorem State.maskAll_now (s : State) (l : List (SourceId × Bool)) :
    (s.maskAll l).now = s.now := by
  induction l generalizing s with
  | nil => rfl
  | cons p rest ih => simp [State.maskAll, ih]
@[simp] theorem State.maskAll_pending (s : State) (l : List (SourceId × Bool)) :
    (s.maskAll l).pending = s.pending := by
  induction l generalizing s with
  | nil => rfl
  | cons p rest ih => simp [State.maskAll, ih]
@[simp] theorem State.maskAll_hold (s : State) (l : List (SourceId × Bool)) :
    (s.maskAll l).hold = s.hold := by
  induction l generalizing s with
  | nil => rfl
  | cons p rest ih => simp [State.maskAll, ih]
@[simp] theorem State.maskAll_port (s : State) (l : List (SourceId × Bool)) :
    (s.maskAll l).port = s.port := by
  induction l generalizing s with
  | nil => rfl
  | cons p rest ih => simp [State.maskAll, ih]
@[simp] theorem State.maskAll_line (s : State) (l : List (SourceId × Bool)) :
    (s.maskAll l).line = s.line := by
  induction l generalizing s with
  | nil => rfl
  | cons p rest ih => simp [State.maskAll, ih]
@[simp] theorem State.maskAll_engine (s : State) (l : List (SourceId × Bool)) :
    (s.maskAll l).engine = s.engine := by
  induction l generalizing s with
  | nil => rfl
  | cons p rest ih => simp [State.maskAll, ih]
@[simp] theorem State.maskAll_txns (s : State) (l : List (SourceId × Bool)) :
    (s.maskAll l).txns = s.txns := by
  induction l generalizing s with
  | nil => rfl
  | cons p rest ih => simp [State.maskAll, ih]
@[simp] theorem State.maskAll_sched (s : State) (l : List (SourceId × Bool)) :
    (s.maskAll l).sched = s.sched := by
  induction l generalizing s with
  | nil => rfl
  | cons p rest ih => simp [State.maskAll, ih]
@[simp] theorem State.maskAll_attempt (s : State) (l : List (SourceId × Bool)) :
    (s.maskAll l).attempt = s.attempt := by
  induction l generalizing s with
  | nil => rfl
  | cons p rest ih => simp [State.maskAll, ih]
@[simp] theorem State.maskAll_stations (s : State) (l : List (SourceId × Bool)) :
    (s.maskAll l).stations = s.stations := by
  induction l generalizing s with
  | nil => rfl
  | cons p rest ih => simp [State.maskAll, ih]
@[simp] theorem State.maskAll_inbound (s : State) (l : List (SourceId × Bool)) :
    (s.maskAll l).inbound = s.inbound := by
  induction l generalizing s with
  | nil => rfl
  | cons p rest ih => simp [State.maskAll, ih]

/-! ### frameError: writes port, reports, events -/

@[simp] theorem State.frameError_now (s : State) (e : FrameError) :
    (s.frameError e).now = s.now := by
  simp only [State.frameError]; split <;> simp
@[simp] theorem State.frameError_pending (s : State) (e : FrameError) :
    (s.frameError e).pending = s.pending := by
  simp only [State.frameError]; split <;> simp
@[simp] theorem State.frameError_hold (s : State) (e : FrameError) :
    (s.frameError e).hold = s.hold := by
  simp only [State.frameError]; split <;> simp
@[simp] theorem State.frameError_line (s : State) (e : FrameError) :
    (s.frameError e).line = s.line := by
  simp only [State.frameError]; split <;> simp
@[simp] theorem State.frameError_engine (s : State) (e : FrameError) :
    (s.frameError e).engine = s.engine := by
  simp only [State.frameError]; split <;> simp
@[simp] theorem State.frameError_txns (s : State) (e : FrameError) :
    (s.frameError e).txns = s.txns := by
  simp only [State.frameError]; split <;> simp
@[simp] theorem State.frameError_sched (s : State) (e : FrameError) :
    (s.frameError e).sched = s.sched := by
  simp only [State.frameError]; split <;> simp
@[simp] theorem State.frameError_attempt (s : State) (e : FrameError) :
    (s.frameError e).attempt = s.attempt := by
  simp only [State.frameError]; split <;> simp
@[simp] theorem State.frameError_stations (s : State) (e : FrameError) :
    (s.frameError e).stations = s.stations := by
  simp only [State.frameError]; split <;> simp
@[simp] theorem State.frameError_inbound (s : State) (e : FrameError) :
    (s.frameError e).inbound = s.inbound := by
  simp only [State.frameError]; split <;> simp

/-! ### byteSeen: writes port -/

@[simp] theorem State.byteSeen_now (s : State) :
    (s.byteSeen).now = s.now := rfl
@[simp] theorem State.byteSeen_pending (s : State) :
    (s.byteSeen).pending = s.pending := rfl
@[simp] theorem State.byteSeen_hold (s : State) :
    (s.byteSeen).hold = s.hold := rfl
@[simp] theorem State.byteSeen_line (s : State) :
    (s.byteSeen).line = s.line := rfl
@[simp] theorem State.byteSeen_engine (s : State) :
    (s.byteSeen).engine = s.engine := rfl
@[simp] theorem State.byteSeen_txns (s : State) :
    (s.byteSeen).txns = s.txns := rfl
@[simp] theorem State.byteSeen_sched (s : State) :
    (s.byteSeen).sched = s.sched := rfl
@[simp] theorem State.byteSeen_attempt (s : State) :
    (s.byteSeen).attempt = s.attempt := rfl
@[simp] theorem State.byteSeen_stations (s : State) :
    (s.byteSeen).stations = s.stations := rfl
@[simp] theorem State.byteSeen_inbound (s : State) :
    (s.byteSeen).inbound = s.inbound := rfl
@[simp] theorem State.byteSeen_reports (s : State) :
    (s.byteSeen).reports = s.reports := rfl
@[simp] theorem State.byteSeen_events (s : State) :
    (s.byteSeen).events = s.events := rfl

/-! ### frameComplete: writes port -/

@[simp] theorem State.frameComplete_now (s : State) :
    (s.frameComplete).now = s.now := rfl
@[simp] theorem State.frameComplete_pending (s : State) :
    (s.frameComplete).pending = s.pending := rfl
@[simp] theorem State.frameComplete_hold (s : State) :
    (s.frameComplete).hold = s.hold := rfl
@[simp] theorem State.frameComplete_line (s : State) :
    (s.frameComplete).line = s.line := rfl
@[simp] theorem State.frameComplete_engine (s : State) :
    (s.frameComplete).engine = s.engine := rfl
@[simp] theorem State.frameComplete_txns (s : State) :
    (s.frameComplete).txns = s.txns := rfl
@[simp] theorem State.frameComplete_sched (s : State) :
    (s.frameComplete).sched = s.sched := rfl
@[simp] theorem State.frameComplete_attempt (s : State) :
    (s.frameComplete).attempt = s.attempt := rfl
@[simp] theorem State.frameComplete_stations (s : State) :
    (s.frameComplete).stations = s.stations := rfl
@[simp] theorem State.frameComplete_inbound (s : State) :
    (s.frameComplete).inbound = s.inbound := rfl
@[simp] theorem State.frameComplete_reports (s : State) :
    (s.frameComplete).reports = s.reports := rfl
@[simp] theorem State.frameComplete_events (s : State) :
    (s.frameComplete).events = s.events := rfl

/-! ### replyAndRemember: writes port -/

@[simp] theorem State.replyAndRemember_now (s : State) (c : BitVec 16) (r : Reply) :
    (s.replyAndRemember c r).now = s.now := rfl
@[simp] theorem State.replyAndRemember_pending (s : State) (c : BitVec 16) (r : Reply) :
    (s.replyAndRemember c r).pending = s.pending := rfl
@[simp] theorem State.replyAndRemember_hold (s : State) (c : BitVec 16) (r : Reply) :
    (s.replyAndRemember c r).hold = s.hold := rfl
@[simp] theorem State.replyAndRemember_line (s : State) (c : BitVec 16) (r : Reply) :
    (s.replyAndRemember c r).line = s.line := rfl
@[simp] theorem State.replyAndRemember_engine (s : State) (c : BitVec 16) (r : Reply) :
    (s.replyAndRemember c r).engine = s.engine := rfl
@[simp] theorem State.replyAndRemember_txns (s : State) (c : BitVec 16) (r : Reply) :
    (s.replyAndRemember c r).txns = s.txns := rfl
@[simp] theorem State.replyAndRemember_sched (s : State) (c : BitVec 16) (r : Reply) :
    (s.replyAndRemember c r).sched = s.sched := rfl
@[simp] theorem State.replyAndRemember_attempt (s : State) (c : BitVec 16) (r : Reply) :
    (s.replyAndRemember c r).attempt = s.attempt := rfl
@[simp] theorem State.replyAndRemember_stations (s : State) (c : BitVec 16) (r : Reply) :
    (s.replyAndRemember c r).stations = s.stations := rfl
@[simp] theorem State.replyAndRemember_inbound (s : State) (c : BitVec 16) (r : Reply) :
    (s.replyAndRemember c r).inbound = s.inbound := rfl
@[simp] theorem State.replyAndRemember_reports (s : State) (c : BitVec 16) (r : Reply) :
    (s.replyAndRemember c r).reports = s.reports := rfl
@[simp] theorem State.replyAndRemember_events (s : State) (c : BitVec 16) (r : Reply) :
    (s.replyAndRemember c r).events = s.events := rfl

end Sys2Proof.Machine
end

