-- ==== Sys2Proof/Laws/ConfigKept.lean ====
section
/-! SUPPORT. The line and round configurations, the contention count and the inbound threshold are written by the requests
that carry them and by a contention alone: every other operation keeps them. -/

namespace Sys2Proof.Machine

/-! ### The line configuration and the contention count -/

@[simp] theorem State.setActivity_config (s : State) (a : LineActivity) :
    (s.setActivity a).line.config = s.line.config := rfl
@[simp] theorem State.setActivity_contentions (s : State) (a : LineActivity) :
    (s.setActivity a).line.contentions = s.line.contentions := rfl
@[simp] theorem State.goQuiet_config (s : State) : s.goQuiet.line.config = s.line.config := rfl
@[simp] theorem State.goQuiet_contentions (s : State) : s.goQuiet.line.contentions = s.line.contentions := rfl
@[simp] theorem State.goReclaim_config (s : State) : s.goReclaim.line.config = s.line.config := rfl
@[simp] theorem State.goReclaim_contentions (s : State) : s.goReclaim.line.contentions = s.line.contentions := rfl
@[simp] theorem State.startAttempt_config (s : State) (r : Record) :
    (s.startAttempt r).line.config = s.line.config := rfl
@[simp] theorem State.startAttempt_contentions (s : State) (r : Record) :
    (s.startAttempt r).line.contentions = s.line.contentions := rfl

@[simp] theorem State.walkFrom_config (s : State) (g : OpenGap) (older l : List Record) :
    (s.walkFrom g older l).line.config = s.line.config := by
  induction l generalizing s older with
  | nil => rfl
  | cons r rest ih =>
    unfold State.walkFrom
    split
    · split
      · rw [ih]; simp
      · split
        · simp
        · exact ih _ _
    · exact ih _ _
@[simp] theorem State.walkFrom_contentions (s : State) (g : OpenGap) (older l : List Record) :
    (s.walkFrom g older l).line.contentions = s.line.contentions := by
  induction l generalizing s older with
  | nil => rfl
  | cons r rest ih =>
    unfold State.walkFrom
    split
    · split
      · rw [ih]; simp
      · split
        · simp
        · exact ih _ _
    · exact ih _ _
@[simp] theorem State.walk_config (s : State) : s.walk.line.config = s.line.config := by
  unfold State.walk
  split
  · rfl
  · split
    · simp
    · rfl
@[simp] theorem State.walk_contentions (s : State) : s.walk.line.contentions = s.line.contentions := by
  unfold State.walk
  split
  · rfl
  · split
    · simp
    · rfl
@[simp] theorem State.endAttempt_config (s : State) (a : Attempt) (o : TxnOutcome) :
    (s.endAttempt a o).line.config = s.line.config := by
  unfold State.endAttempt
  split <;> simp
@[simp] theorem State.endAttempt_contentions (s : State) (a : Attempt) (o : TxnOutcome) :
    (s.endAttempt a o).line.contentions = s.line.contentions := by
  unfold State.endAttempt
  split <;> simp

@[simp] theorem State.enterStopped_config (s : State) : s.enterStopped.line.config = s.line.config := by
  simp [State.enterStopped]
@[simp] theorem State.enterStopped_contentions (s : State) : s.enterStopped.line.contentions = s.line.contentions := by
  simp [State.enterStopped]
@[simp] theorem State.enterHalted_config (s : State) : s.enterHalted.line.config = s.line.config := by
  simp [State.enterHalted]
@[simp] theorem State.enterHalted_contentions (s : State) : s.enterHalted.line.contentions = s.line.contentions := by
  simp [State.enterHalted]
@[simp] theorem State.sendSync_config (s : State) : s.sendSync.line.config = s.line.config := rfl
@[simp] theorem State.sendSync_contentions (s : State) : s.sendSync.line.contentions = s.line.contentions := rfl
@[simp] theorem State.startRound_config (s : State) (m : Bool) : (s.startRound m).line.config = s.line.config := by
  unfold State.startRound
  cases m <;> simp
@[simp] theorem State.startRound_contentions (s : State) (m : Bool) :
    (s.startRound m).line.contentions = s.line.contentions := by
  unfold State.startRound
  cases m <;> simp
@[simp] theorem State.settleExpired_config (s : State) : s.settleExpired.line.config = s.line.config := by
  unfold State.settleExpired
  split <;> simp
@[simp] theorem State.settleExpired_contentions (s : State) :
    s.settleExpired.line.contentions = s.line.contentions := by
  unfold State.settleExpired
  split <;> simp
@[simp] theorem State.sendSegment_config (s : State) : s.sendSegment.line.config = s.line.config := by
  unfold State.sendSegment
  split
  · dsimp only; split <;> rfl
  · rfl
@[simp] theorem State.sendSegment_contentions (s : State) : s.sendSegment.line.contentions = s.line.contentions := by
  unfold State.sendSegment
  split
  · dsimp only; split <;> rfl
  · rfl
@[simp] theorem State.openGap_config (s : State) : s.openGap.line.config = s.line.config := by
  unfold State.openGap
  split <;> simp
@[simp] theorem State.openGap_contentions (s : State) : s.openGap.line.contentions = s.line.contentions := by
  unfold State.openGap
  split <;> simp
@[simp] theorem State.frameSent_config (s : State) (f : SendFrame) : (s.frameSent f).line.config = s.line.config := by
  unfold State.frameSent State.setPhase
  repeat' split
  all_goals simp
@[simp] theorem State.frameSent_contentions (s : State) (f : SendFrame) :
    (s.frameSent f).line.contentions = s.line.contentions := by
  unfold State.frameSent State.setPhase
  repeat' split
  all_goals simp
@[simp] theorem State.stationStart_config (s : State) : s.stationStart.line.config = s.line.config := by
  unfold State.stationStart State.setPhase
  split <;> simp
@[simp] theorem State.stationStart_contentions (s : State) :
    s.stationStart.line.contentions = s.line.contentions := by
  unfold State.stationStart State.setPhase
  split <;> simp
@[simp] theorem State.responseExpired_config (s : State) : s.responseExpired.line.config = s.line.config := by
  unfold State.responseExpired
  split <;> simp
@[simp] theorem State.responseExpired_contentions (s : State) :
    s.responseExpired.line.contentions = s.line.contentions := by
  unfold State.responseExpired
  split <;> simp
@[simp] theorem State.deliver_config (s : State) (b : Bytes) (e : FrameEnd) :
    (s.deliver b e).line.config = s.line.config := by
  unfold State.deliver
  split
  · rfl
  · dsimp only; split <;> simp
@[simp] theorem State.deliver_contentions (s : State) (b : Bytes) (e : FrameEnd) :
    (s.deliver b e).line.contentions = s.line.contentions := by
  unfold State.deliver
  split
  · rfl
  · dsimp only; split <;> simp
@[simp] theorem State.talkExpired_config (s : State) : s.talkExpired.line.config = s.line.config := by
  unfold State.talkExpired
  split <;> simp
@[simp] theorem State.talkExpired_contentions (s : State) : s.talkExpired.line.contentions = s.line.contentions := by
  unfold State.talkExpired
  split <;> simp
@[simp] theorem State.reclaimed_config (s : State) : s.reclaimed.line.config = s.line.config := by
  unfold State.reclaimed
  split <;> simp
@[simp] theorem State.reclaimed_contentions (s : State) : s.reclaimed.line.contentions = s.line.contentions := by
  unfold State.reclaimed
  split <;> simp
@[simp] theorem State.abortFrame_config (s : State) (f : SendFrame) : (s.abortFrame f).line.config = s.line.config := by
  unfold State.abortFrame
  repeat' split
  all_goals simp
@[simp] theorem State.abortFrame_contentions (s : State) (f : SendFrame) :
    (s.abortFrame f).line.contentions = s.line.contentions := by
  unfold State.abortFrame
  repeat' split
  all_goals simp
@[simp] theorem State.countContention_config (s : State) (f : SendFrame) :
    (s.countContention f).line.config = s.line.config := by
  unfold State.countContention; simp
@[simp] theorem State.countContention_contentions (s : State) (f : SendFrame) :
    (s.countContention f).line.contentions = heldSucc s.line.contentions := by
  unfold State.countContention; simp
@[simp] theorem State.contend_config (s : State) : s.contend.line.config = s.line.config := by
  unfold State.contend
  split
  · split
    · rfl
    · split <;> simp
  all_goals rfl
@[simp] theorem State.stopRunning_config (s : State) : s.stopRunning.line.config = s.line.config := by
  unfold State.stopRunning
  dsimp only
  split <;> simp
@[simp] theorem State.stopRunning_contentions (s : State) : s.stopRunning.line.contentions = s.line.contentions := by
  unfold State.stopRunning
  dsimp only
  split <;> simp
@[simp] theorem State.stop_config (s : State) : s.stop.line.config = s.line.config := by
  unfold State.stop
  split <;> simp
@[simp] theorem State.stop_contentions (s : State) : s.stop.line.contentions = s.line.contentions := by
  unfold State.stop
  split <;> simp
@[simp] theorem State.beginRun_config (s : State) : s.beginRun.line.config = s.line.config := by
  simp [State.beginRun]
@[simp] theorem State.beginRun_contentions (s : State) : s.beginRun.line.contentions = s.line.contentions := by
  simp [State.beginRun]

/-! ### The round configuration -/

@[simp] theorem State.enterStopped_roundConfig (s : State) : s.enterStopped.engine.config = s.engine.config := by
  simp [State.enterStopped, Engine.endRun]
@[simp] theorem State.clearFault_roundConfig (s : State) : s.clearFault.engine.config = s.engine.config := by
  simp [State.clearFault]
@[simp] theorem State.enterHalted_roundConfig (s : State) : s.enterHalted.engine.config = s.engine.config := by
  simp [State.enterHalted, Engine.endRun]
@[simp] theorem State.enterRunning_roundConfig (s : State) : s.enterRunning.engine.config = s.engine.config := by
  unfold State.enterRunning
  split <;> simp
@[simp] theorem State.startRound_roundConfig (s : State) (m : Bool) :
    (s.startRound m).engine.config = s.engine.config := by
  unfold State.startRound State.layRound State.commitTable
  cases m <;> simp [Engine.raised]
@[simp] theorem State.settleExpired_roundConfig (s : State) : s.settleExpired.engine.config = s.engine.config := by
  unfold State.settleExpired
  split <;> simp
@[simp] theorem State.trigEdge_roundConfig (s : State) : s.trigEdge.engine.config = s.engine.config := by
  unfold State.trigEdge State.acceptEdge
  repeat' split
  all_goals simp
@[simp] theorem State.sendSegment_roundConfig (s : State) : s.sendSegment.engine.config = s.engine.config := by
  unfold State.sendSegment
  split
  · dsimp only; split <;> rfl
  · rfl
@[simp] theorem State.openGap_roundConfig (s : State) : s.openGap.engine.config = s.engine.config := by
  unfold State.openGap
  split <;> simp
@[simp] theorem State.stopRunning_roundConfig (s : State) : s.stopRunning.engine.config = s.engine.config := by
  unfold State.stopRunning
  dsimp only
  split <;> simp
@[simp] theorem State.stop_roundConfig (s : State) : s.stop.engine.config = s.engine.config := by
  unfold State.stop
  split <;> simp
@[simp] theorem State.beginRun_roundConfig (s : State) : s.beginRun.engine.config = s.engine.config := by
  simp [State.beginRun]

/-! ### The inbound threshold -/

@[simp] theorem State.keepMessage_threshold (s : State) (m : Message) :
    (s.keepMessage m).inbound.threshold = s.inbound.threshold := by
  unfold State.keepMessage
  dsimp only
  split <;> simp
@[simp] theorem State.arrive_threshold (s : State) (m : Message) :
    (s.arrive m).inbound.threshold = s.inbound.threshold := by
  unfold State.arrive
  split <;> simp
@[simp] theorem State.inboundResult_threshold (s : State) (a : Attempt) (o : TxnOutcome) :
    (s.inboundResult a o).inbound.threshold = s.inbound.threshold := by
  unfold State.inboundResult
  repeat' split
  all_goals simp
@[simp] theorem State.endAttempt_threshold (s : State) (a : Attempt) (o : TxnOutcome) :
    (s.endAttempt a o).inbound.threshold = s.inbound.threshold := by
  unfold State.endAttempt State.handOn
  split
  · simp [State.stationResult]
  · simp
@[simp] theorem State.frameSent_threshold (s : State) (f : SendFrame) :
    (s.frameSent f).inbound.threshold = s.inbound.threshold := by
  unfold State.frameSent State.setPhase
  repeat' split
  all_goals simp
@[simp] theorem State.reclaimed_threshold (s : State) : s.reclaimed.inbound.threshold = s.inbound.threshold := by
  unfold State.reclaimed
  split <;> simp

end Sys2Proof.Machine
end

