-- ==== Sys2Proof/Laws/Ops.lean ====
section
/-! SUPPORT. What the shared operations do: the table accessors, the Report Queue and the Event Table, bulk completions,
attempt starts, the walk, the treatment of a record at the end of its attempt, and the two line monitors. -/

namespace Sys2Proof.Machine

/-! ### Table accessors -/

theorem State.station_setStation (s : State) (i j : StationId) (v : Station) :
    (s.setStation i v).station j = if j = i then v else s.station j := by
  unfold State.station State.setStation State.setStations
  simp only [Fin.getElem_fin]
  rw [Vector.getElem_set]
  by_cases h : j = i
  · simp [h]
  · have : (i : Nat) ≠ j := fun e => h (Fin.ext e.symm)
    simp [h, this]

theorem State.source_setSource (s : State) (a b : SourceId) (v : Source) :
    (s.setSource a v).source b = if b = a then v else s.source b := by
  unfold State.source State.setSource State.setEvents
  simp only [Fin.getElem_fin]
  rw [Vector.getElem_set]
  by_cases h : b = a
  · simp [h]
  · have : (a : Nat) ≠ b := fun e => h (Fin.ext e.symm)
    simp [h, this]

@[simp] theorem State.source_queueReport (s : State) (r : ReportBody) (x : SourceId) :
    (s.queueReport r).source x = s.source x := rfl

@[simp] theorem State.source_setReports (s : State) (q : ReportQueue) (x : SourceId) :
    (s.setReports q).source x = s.source x := rfl

/-! ### Reports -/

/-- Reports with these contents, numbered from `n` on. -/
def numbered (n : BitVec 16) : List ReportBody → List Report
  | [] => []
  | b :: rest => { seq := n, body := b } :: numbered (n + 1) rest

@[simp] theorem numbered_length (n : BitVec 16) (l : List ReportBody) : (numbered n l).length = l.length := by
  induction l generalizing n with
  | nil => rfl
  | cons b rest ih => rw [numbered, List.length_cons, List.length_cons, ih]

@[simp] theorem numbered_map_body (n : BitVec 16) (l : List ReportBody) : (numbered n l).map Report.body = l := by
  induction l generalizing n with
  | nil => rfl
  | cons b rest ih => rw [numbered, List.map_cons, ih]

theorem State.queueReport_reports (s : State) (b : ReportBody) :
    (s.queueReport b).reports
      = { queue := s.reports.queue ++ numbered s.reports.nextSeq [b], nextSeq := s.reports.nextSeq + 1 } := rfl

/-! ### Occurrences -/

theorem State.occur_source (s : State) (src : SourceId) (d : Detail) (x : SourceId) :
    (s.occur src d).source x = if x = src then (s.source src).occurred d s.engine.counter else s.source x := by
  unfold State.occur
  dsimp only
  split
  · exact s.source_setSource _ _ _
  · rw [State.source_queueReport]
    exact s.source_setSource _ _ _

/-- An occurrence queues nothing, or the EVENT report of the source as it then stands. -/
theorem State.occur_reports (s : State) (src : SourceId) (d : Detail) :
    (s.occur src d).reports
      = if (s.source src).latched = true ∨ (s.source src).masked = true then s.reports
        else { queue := s.reports.queue ++ numbered s.reports.nextSeq
                 [.event { source := src, count := min 255 ((s.source src).count + 1), detail := some d,
                           round := s.engine.counter }],
               nextSeq := s.reports.nextSeq + 1 } := by
  unfold State.occur
  dsimp only
  split
  · rfl
  · rw [State.queueReport_reports]
    unfold State.eventReport
    rw [State.source_setSource]
    simp only [if_true]
    rfl

/-! ### Bulk completions -/

/-- The completions reach the queue in the list's order, numbered from the next number on. -/
theorem State.queueCompletions_reports (s : State) (o : TxnOutcome) (l : List Record) :
    (s.queueCompletions o l).reports
      = { queue := s.reports.queue ++ numbered s.reports.nextSeq
            (l.map fun r => .completion (r.plainCompletion o s.engine.counter)),
          nextSeq := s.reports.nextSeq + BitVec.ofNat 16 l.length } := by
  induction l generalizing s with
  | nil => simp [State.queueCompletions, numbered]
  | cons r rest ih =>
    rw [State.queueCompletions, ih, State.queueReport_reports, State.queueReport_engine]
    have e : BitVec.ofNat 16 (rest.length + 1) = 1 + BitVec.ofNat 16 rest.length := by
      rw [BitVec.ofNat_add, BitVec.add_comm]
      rfl
    simp only [List.map_cons, numbered, List.append_assoc, List.cons_append, List.nil_append, List.length_cons, e,
      BitVec.add_assoc]

theorem State.completeAll_txns (s : State) (p : Record → Bool) (o : TxnOutcome) :
    (s.completeAll p o).txns = s.txns.filter fun r => !r.pendingHost p := by
  unfold State.completeAll
  rw [State.queueCompletions_txns]
  rfl

theorem State.completeAll_reports (s : State) (p : Record → Bool) (o : TxnOutcome) :
    (s.completeAll p o).reports
      = { queue := s.reports.queue ++ numbered s.reports.nextSeq
            ((s.txns.filter fun r => r.pendingHost p).map fun r =>
              .completion (r.plainCompletion o s.engine.counter)),
          nextSeq := s.reports.nextSeq + BitVec.ofNat 16 (s.countMatching p) } := by
  unfold State.completeAll State.countMatching
  rw [State.queueCompletions_reports, ← List.countP_eq_length_filter]
  rfl

theorem State.removeInternal_txns (s : State) (p : Record → Bool) :
    (s.removeInternal p).txns = s.txns.filter fun r => !r.pendingInternal p := rfl

/-- After a flush of everything only ON_LINE records are left. -/
theorem State.flushAll_txns (s : State) (o : TxnOutcome) :
    (s.flushAll o).txns = s.txns.filter fun r => r.onLine := by
  unfold State.flushAll
  rw [State.removeInternal_txns, State.completeAll_txns, List.filter_filter]
  congr 1
  funext r
  unfold Record.pendingHost Record.pendingInternal
  cases r.isHost <;> cases r.onLine <;> rfl

/-! ### Attempt starts and the walk -/

theorem State.startAttempt_attempt (s : State) (r : Record) : (s.startAttempt r).attempt = some (s.newAttempt r) := rfl

theorem State.startAttempt_txns (s : State) (r : Record) : (s.startAttempt r).txns = markOnLine r.id s.txns := rfl

theorem State.startAttempt_activity (s : State) (r : Record) :
    (s.startAttempt r).line.activity = .sending (s.txnFrame r) := rfl

/-- The hold of a POLL for room leaves the state, or sets the flag and makes the station's occurrence. -/
theorem State.holdPoll_cases (s : State) (r : Record) :
    s.holdPoll r = s ∨ ∃ i, s.sched.pollsHeld = false ∧ r.target = .station i
      ∧ s.holdPoll r = (s.setSched { s.sched with pollsHeld := true }).occur srcPollsHeld (.station i) := by
  unfold State.holdPoll
  split
  · exact Or.inl rfl
  · next h =>
    split
    · next i hi => exact Or.inr ⟨i, by simpa using h, hi, rfl⟩
    · exact Or.inl rfl

/-- What a walk can do: hold POLLs, and then start a record of the list or none. -/
theorem State.walkFrom_cases {P : State → Prop} (g : OpenGap) (hold : ∀ u r, P u → P (u.holdPoll r)) :
    ∀ (l older : List Record) (s : State), P s →
      ∃ u, P u ∧ (s.walkFrom g older l = u ∨
        ∃ r ∈ l, ∃ before, u.eligible g.kind before r = true ∧ u.heldForRoom r = false ∧ u.fits g r = true
          ∧ s.walkFrom g older l = u.startAttempt r) := by
  intro l
  induction l with
  | nil => exact fun _ s h => ⟨s, h, Or.inl rfl⟩
  | cons r rest ih =>
    intro older s h
    have later : ∀ u, P u → ∃ v, P v ∧ (u.walkFrom g (older ++ [r]) rest = v ∨
        ∃ x ∈ r :: rest, ∃ before, v.eligible g.kind before x = true ∧ v.heldForRoom x = false ∧ v.fits g x = true
          ∧ u.walkFrom g (older ++ [r]) rest = v.startAttempt x) := fun u hu => by
      obtain ⟨v, hv, e | ⟨x, hx, b, h1, h2, h3, e⟩⟩ := ih (older ++ [r]) u hu
      · exact ⟨v, hv, Or.inl e⟩
      · exact ⟨v, hv, Or.inr ⟨x, List.mem_cons_of_mem _ hx, b, h1, h2, h3, e⟩⟩
    rw [State.walkFrom]
    split
    · next he =>
      split
      · exact later _ (hold _ _ h)
      · next hr =>
        split
        · next hf =>
          exact ⟨s, h, Or.inr ⟨r, List.mem_cons_self .., older, he, by simpa using hr, hf, rfl⟩⟩
        · exact later _ h
    · exact later _ h

/-- What a walk can do, for a property that holding POLLs keeps. -/
theorem State.walk_cases {P : State → Prop} (hold : ∀ u r, P u → P (u.holdPoll r)) {s : State} (h : P s) :
    ∃ u, P u ∧ (s.walk = u ∨
      ∃ g, s.sched.openGap = some g ∧ s.engine.state = .running ∧ s.now < g.ends ∧ s.inFlight = none
        ∧ ∃ r ∈ s.txns, ∃ before, u.eligible g.kind before r = true ∧ u.heldForRoom r = false ∧ u.fits g r = true
          ∧ s.walk = u.startAttempt r) := by
  unfold State.walk
  split
  · exact ⟨s, h, Or.inl rfl⟩
  · next g hg =>
    split
    · next hc =>
      obtain ⟨u, hu, e | ⟨r, hr, b, h1, h2, h3, e⟩⟩ := State.walkFrom_cases g hold s.txns [] s h
      · exact ⟨u, hu, Or.inl e⟩
      · exact ⟨u, hu, Or.inr ⟨g, hg, hc.1, hc.2.1, hc.2.2, r, hr, b, h1, h2, h3, e⟩⟩
    · exact ⟨s, h, Or.inl rfl⟩

/-- A walk keeps what holding POLLs and starting an attempt keep. -/
theorem State.walk_keeps {P : State → Prop} (hold : ∀ u r, P u → P (u.holdPoll r))
    (start : ∀ u r, P u → P (u.startAttempt r)) {s : State} (h : P s) : P s.walk := by
  obtain ⟨u, hu, e | ⟨_, _, _, _, _, r, _, _, _, _, _, e⟩⟩ := State.walk_cases hold h
  · exact e ▸ hu
  · exact e ▸ start _ _ hu

/-! ### The end of an attempt -/

/-- The record of an attempt is removed, kept for a retry, or completed. -/
theorem State.treatRecord_cases (s : State) (res : AttemptResult) :
    s.treatRecord res = s ∨ ∃ r, s.inFlight = some r ∧
      ((r.isHost = false ∧ s.treatRecord res = s.setTxns (dropRecord r.id s.txns))
        ∨ (r.isHost = true ∧ res.outcome.retryable = true ∧ s.mayRetry (r.attempted res) = true
          ∧ s.treatRecord res = s.setTxns (replaceRecord (r.attempted res) s.txns))
        ∨ (r.isHost = true ∧ s.treatRecord res = (s.setTxns (dropRecord r.id s.txns)).queueReport
            (.completion ((r.attempted res).attemptCompletion res s.engine.counter)))) := by
  unfold State.treatRecord
  split
  · exact Or.inl rfl
  · next r hr =>
    refine Or.inr ⟨r, hr, ?_⟩
    dsimp only
    split
    · next h => exact Or.inl ⟨h, rfl⟩
    · next h =>
      have h' : r.isHost = true := by simpa using h
      split
      · next hc => exact Or.inr (Or.inl ⟨h', hc.1, hc.2, rfl⟩)
      · exact Or.inr (Or.inr ⟨h', rfl⟩)

/-- An attempt's end is a walk from a state without an attempt. -/
theorem State.endAttempt_walks (s : State) (a : Attempt) (o : TxnOutcome) :
    ∃ u : State, s.endAttempt a o = u.walk ∧ u.attempt = none := by
  unfold State.endAttempt
  dsimp only
  refine ⟨_, rfl, ?_⟩
  split
  · rw [State.handOn_attempt]; rfl
  · rw [State.treatRecord_attempt]; rfl

/-! ### The contention monitor -/

/-- A mismatch is found only on the frame being sent, in the middle of a bit time that the master drives at the other
level. -/
theorem State.mismatchAt_eq_some {s : State} {bit : Nat} {high : Bool} {m : Time} :
    s.mismatchAt bit high = some m ↔
      ∃ f, s.line.activity = .sending f ∧ f.drivenAt bit = some (!high) ∧ s.now ≤ m ∧ s.middleOf f bit = m := by
  unfold State.mismatchAt
  cases h : s.line.activity with
  | sending f =>
    by_cases hd : f.drivenAt bit = some (!high) ∧ s.now ≤ s.middleOf f bit
    · simp only [if_pos hd]
      constructor
      · intro e
        cases e
        exact ⟨f, rfl, hd.1, hd.2, rfl⟩
      · rintro ⟨g, hg, _, _, rfl⟩
        cases hg; rfl
    · simp only [if_neg hd]
      constructor
      · intro e; cases e
      · rintro ⟨g, hg, h1, h2, rfl⟩
        cases hg; exact absurd ⟨h1, h2⟩ hd
  | _ => simp

/-! ### The stuck-line monitor -/

@[simp] theorem StuckMonitor.count_high (m : StuckMonitor) (bit : Time) :
    m.count bit true = { countedTo := m.countedTo + bit, lows := 0 } := rfl

@[simp] theorem StuckMonitor.count_low (m : StuckMonitor) (bit : Time) :
    m.count bit false = { countedTo := m.countedTo + bit, lows := m.lows + 1 } := rfl

/-- Counting goes on from where it stood. -/
theorem StuckMonitor.le_countAll (m : StuckMonitor) (bit : Time) (stuck : Nat) (levels : List Bool) :
    m.countedTo ≤ (m.countAll bit stuck levels).countedTo := by
  induction levels generalizing m with
  | nil => exact Nat.le_refl _
  | cons high rest ih =>
    unfold StuckMonitor.countAll
    split
    · exact Nat.le_add_right _ _
    · exact Nat.le_trans (Nat.le_add_right m.countedTo bit) (ih (m.count bit high))

/-- The count reaches no more than stuck_time, as the monitor stops there. -/
theorem StuckMonitor.countAll_lows_le {m : StuckMonitor} {stuck : Nat} (bit : Time) (levels : List Bool)
    (h : m.lows < stuck) : (m.countAll bit stuck levels).lows ≤ stuck := by
  induction levels generalizing m with
  | nil => exact Nat.le_of_lt h
  | cons high rest ih =>
    have hc : (m.count bit high).lows ≤ stuck := by
      cases high
      · exact h
      · exact Nat.zero_le _
    unfold StuckMonitor.countAll
    split
    · exact hc
    · exact ih (by omega)

/-- The monitor runs in QUIET in a run, and nowhere else. -/
theorem State.stuckAfter_eq_some {s : State} {levels : List Bool} {m : StuckMonitor} :
    s.stuckAfter levels = some m ↔
      ∃ q, s.line.activity = .quiet q ∧ s.engine.state.inRun = true ∧
        (q.caughtUp (s.bits 1) s.now).countAll (s.bits 1) s.line.config.stuckTime levels = m := by
  unfold State.stuckAfter
  cases h : s.line.activity with
  | quiet q =>
    by_cases hr : s.engine.state.inRun = true
    · simp [hr]
    · simp [hr]
  | _ => simp

end Sys2Proof.Machine
end

