-- ==== Sys2Proof/Laws/PortApart.lean ====
section
/-! SUPPORT. The Host Port and the other blocks are apart: what a request does to the other blocks does not depend on the
port, but for IDENTIFY's two strap readings, so that work and port commute. -/

namespace Sys2Proof.Machine

/-! ### The shared operations commute with a change of the port -/

theorem State.queueReport_setPort (s : State) (p : HostPort) (b : ReportBody) :
    (s.setPort p).queueReport b = (s.queueReport b).setPort p := rfl

theorem State.occur_setPort (s : State) (p : HostPort) (src : SourceId) (d : Detail) :
    (s.setPort p).occur src d = (s.occur src d).setPort p := by
  by_cases h : (s.source src).latched = true ∨ (s.source src).masked = true
  · have h' : ((s.setPort p).source src).latched = true ∨ ((s.setPort p).source src).masked = true := h
    simp only [State.occur, if_pos h, if_pos h']; rfl
  · have h' : ¬(((s.setPort p).source src).latched = true ∨ ((s.setPort p).source src).masked = true) := h
    simp only [State.occur, if_neg h, if_neg h']; rfl

theorem State.queueCompletions_setPort (s : State) (p : HostPort) (o : TxnOutcome) (l : List Record) :
    (s.setPort p).queueCompletions o l = (s.queueCompletions o l).setPort p := by
  induction l generalizing s with
  | nil => rfl
  | cons r rest ih => exact ih (s.queueReport (.completion (r.plainCompletion o s.engine.counter)))

theorem State.completeAll_setPort (s : State) (p : HostPort) (f : Record → Bool) (o : TxnOutcome) :
    (s.setPort p).completeAll f o = (s.completeAll f o).setPort p :=
  State.queueCompletions_setPort (s.setTxns (s.txns.filter fun r => !r.pendingHost f)) p o _

theorem State.flushAll_setPort (s : State) (p : HostPort) (o : TxnOutcome) :
    (s.setPort p).flushAll o = (s.flushAll o).setPort p := by
  unfold State.flushAll; rw [State.completeAll_setPort]; rfl

theorem State.enterStopped_setPort (s : State) (p : HostPort) :
    (s.setPort p).enterStopped = s.enterStopped.setPort p := by
  have h : ((((s.setPort p).setActivity .off).setEngine ((s.setPort p).engine.endRun .stopped)).closeGap)
      = ((((s.setActivity .off).setEngine (s.engine.endRun .stopped)).closeGap)).setPort p := rfl
  unfold State.enterStopped
  rw [h, State.flushAll_setPort, State.occur_setPort]

theorem State.clearFault_setPort (s : State) (p : HostPort) :
    (s.setPort p).clearFault = s.clearFault.setPort p :=
  State.occur_setPort (s.setEngine { s.engine with state := .stopped }) p srcEngineState (.engine .stopped)

theorem State.stopRunning_setPort (s : State) (p : HostPort) :
    (s.setPort p).stopRunning = s.stopRunning.setPort p := by
  by_cases h : s.stoppingEnd ≤ s.now ∧ s.isQuiet = true
  · have h' : (s.setPort p).stoppingEnd ≤ (s.setPort p).now ∧ (s.setPort p).isQuiet = true := h
    simp only [State.stopRunning, if_pos h, if_pos h']
    exact State.enterStopped_setPort ((s.setEngine { s.engine with
      state := .stopping, pendingStart := none, roundEnd := some s.stoppingEnd,
      agenda := s.engine.agenda.filter RoundItem.isSegment }).closeGap) p
  · have h' : ¬((s.setPort p).stoppingEnd ≤ (s.setPort p).now ∧ (s.setPort p).isQuiet = true) := h
    simp only [State.stopRunning, if_neg h, if_neg h']; rfl

theorem State.stop_setPort (s : State) (p : HostPort) : (s.setPort p).stop = s.stop.setPort p := by
  have e : (s.setPort p).engine.state = s.engine.state := rfl
  unfold State.stop
  rw [e]
  cases s.engine.state
  · rfl
  · exact s.enterStopped_setPort p
  · exact s.stopRunning_setPort p
  · rfl
  · exact s.clearFault_setPort p

theorem State.beginRun_setPort (s : State) (p : HostPort) : (s.setPort p).beginRun = s.beginRun.setPort p := by
  have h : (s.setPort p).completeAll (fun r => !(s.setPort p).canFit r) .unplaceable
      = (s.completeAll (fun r => !s.canFit r) .unplaceable).setPort p :=
    State.completeAll_setPort s p _ _
  unfold State.beginRun
  rw [h]; rfl

theorem State.disableStation_setPort (s : State) (p : HostPort) (i : StationId) :
    (s.setPort p).disableStation i = (s.disableStation i).setPort p := by
  unfold State.disableStation
  rw [State.completeAll_setPort]; rfl

theorem State.maskOne_setPort (s : State) (p : HostPort) (src : SourceId) (m : Bool) :
    (s.setPort p).maskOne src m = (s.maskOne src m).setPort p := by
  by_cases h : m = false ∧ (s.source src).masked = true ∧ (s.source src).latched = true ∧ s.reportQueued src = false
  · have h' : m = false ∧ ((s.setPort p).source src).masked = true ∧ ((s.setPort p).source src).latched = true
        ∧ (s.setPort p).reportQueued src = false := h
    simp only [State.maskOne, if_pos h, if_pos h']; rfl
  · have h' : ¬(m = false ∧ ((s.setPort p).source src).masked = true ∧ ((s.setPort p).source src).latched = true
        ∧ (s.setPort p).reportQueued src = false) := h
    simp only [State.maskOne, if_neg h, if_neg h']; rfl

theorem State.maskAll_setPort (s : State) (p : HostPort) (l : List (SourceId × Bool)) :
    (s.setPort p).maskAll l = (s.maskAll l).setPort p := by
  induction l generalizing s with
  | nil => rfl
  | cons x rest ih =>
    show ((s.setPort p).maskOne x.1 x.2).maskAll rest = ((s.maskOne x.1 x.2).maskAll rest).setPort p
    rw [State.maskOne_setPort]; exact ih _

theorem State.cancelPending_setPort (s : State) (p : HostPort) (r : Record) :
    (s.setPort p).cancelPending r = (s.cancelPending r).setPort p := rfl

theorem State.stationFields_setPort (s : State) (p : HostPort) (i : StationId) :
    (s.setPort p).stationFields i = s.stationFields i := rfl

theorem State.queueEntries_setPort (s : State) (p : HostPort) (older : List Record) (n : Nat) (l : List Record) :
    (s.setPort p).queueEntries older n l = s.queueEntries older n l := by
  induction n generalizing older l with
  | zero => cases l <;> rfl
  | succ n ih =>
    cases l with
    | nil => rfl
    | cons r rest =>
      show (s.setPort p).queueEntry older r ++ (s.setPort p).queueEntries (older ++ [r]) n rest = _
      rw [ih]; rfl

/-! ### The work of every request commutes with a change of the port -/

/-- What a request does to the other blocks, and what it answers, is the same whatever the port holds, as long as the
straps read the same. -/
theorem Request.answer_setPort (q : Request) (b : Bytes) (s : State) (p : HostPort)
    (hm : p.mode = s.port.mode) (hb : p.baudHigh = s.port.baudHigh) :
    q.answer b (s.setPort p) = ((q.answer b s).1.setPort p, (q.answer b s).2) := by
  cases q
  case identify =>
    simp only [Request.answer, answerIdentify]
    split
    · rfl
    · simp only [State.setPort_port, hm, hb]
  case resetDevice => simp only [Request.answer, answerResetDevice]; split <;> rfl
  case configureLine =>
    simp only [Request.answer, answerConfigureLine]; split
    · rfl
    · simp only [State.setPort_engine]; split <;> first | rfl | (simp_all; rfl)
  case readLine => simp only [Request.answer, answerReadLine]; split <;> rfl
  case configureRound =>
    simp only [Request.answer, answerConfigureRound]; split
    · rfl
    · simp only [State.setPort_engine]; split <;> first | rfl | (simp_all; rfl)
  case readRound => simp only [Request.answer, answerReadRound]; split <;> rfl
  case defineSegment =>
    simp only [Request.answer, answerDefineSegment]; split
    · rfl
    · rename_i g _
      by_cases h1 : s.engine.state.atRest = false <;>
        by_cases h2 : Config.segmentStore < tableBytes (insertSegment g s.engine.table) <;>
        simp only [State.setPort_engine, h1, h2, if_true, if_false] <;> rfl
  case deleteSegment =>
    simp only [Request.answer, answerDeleteSegment]; split
    · rfl
    · rename_i k _
      by_cases h1 : s.engine.state.atRest = false <;>
        by_cases h2 : (s.engine.segment k).isNone = true <;>
        simp only [State.setPort_engine, h1, h2, if_true, if_false] <;> rfl
  case updateSegment =>
    simp only [Request.answer, answerUpdateSegment]; split
    · rfl
    · simp only [State.setPort_engine]
      repeat' split
      all_goals rfl
  case readSegment =>
    simp only [Request.answer, answerReadSegment]; split
    · rfl
    · simp only [State.setPort_engine]; split <;> rfl
  case start =>
    simp only [Request.answer, answerStart]; split
    · rfl
    · simp only [State.setPort_engine, State.setPort_line, State.beginRun_setPort]
      split
      · rfl
      · split <;> rfl
  case stop =>
    simp only [Request.answer, answerStop]; split
    · rfl
    · simp only [State.stop_setPort]
  case configureStation =>
    simp only [Request.answer, answerConfigureStation]; split
    · rfl
    · rename_i v _
      have e : (s.setPort p).station v.station = s.station v.station := rfl
      simp only [e]; split
      · rfl
      · split <;> rfl
  case enableStation => simp only [Request.answer, answerEnableStation]; split <;> rfl
  case disableStation =>
    simp only [Request.answer, answerDisableStation]; split
    · rfl
    · simp only [State.disableStation_setPort]; rfl
  case readStation => simp only [Request.answer, answerReadStation]; split <;> rfl
  case submit =>
    simp only [Request.answer, answerSubmit]; split
    · rfl
    · rename_i v _
      have e : (s.setPort p).submitCheck v = s.submitCheck v := rfl
      simp only [e]; split <;> rfl
  case cancel =>
    simp only [Request.answer, answerCancel]; split
    · rfl
    · simp only [State.setPort_txns]; split
      · rfl
      · split <;> rfl
  case readQueue =>
    simp only [Request.answer, answerReadQueue]; split
    · rfl
    · simp only [State.queueEntries_setPort]; rfl
  case configureInbound => simp only [Request.answer, answerConfigureInbound]; split <;> rfl
  case takeMessages => simp only [Request.answer, answerTakeMessages]; split <;> rfl
  case fetchReports => simp only [Request.answer, answerFetchReports]; split <;> rfl
  case ackReports =>
    simp only [Request.answer, answerAckReports]; split
    · rfl
    · simp only [State.setPort_reports]; split <;> rfl
  case readEvents => simp only [Request.answer, answerReadEvents]; split <;> rfl
  case ackEvent =>
    simp only [Request.answer, answerAckEvent]; split
    · rfl
    · rename_i src _
      have e : (s.setPort p).reportQueued src = s.reportQueued src := rfl
      simp only [e]; split <;> rfl
  case maskEvents =>
    simp only [Request.answer, answerMaskEvents]; split
    · rfl
    · simp only [State.maskAll_setPort, State.setPort_reports]

/-- No request's work touches the Host Port. -/
@[simp] theorem Request.answer_port (q : Request) (b : Bytes) (s : State) : (q.answer b s).1.port = s.port := by
  have h := q.answer_setPort b s s.port rfl rfl
  have h' : s.setPort s.port = s := rfl
  rw [h'] at h
  rw [show q.answer b s = _ from h]; rfl

end Sys2Proof.Machine
end

