-- ==== Sys2Proof/Laws/Port.lean ====
section
/-! SUPPORT. A byte boundary in SPI mode, and what a good frame comes to at the Host Port: executed and answered,
answered from the repeat record, turned away for backlog, or discarded before a reset. -/

namespace Sys2Proof.Machine

/-- A request's kind byte names it (R176). -/
@[simp] theorem Request.ofCode_code (q : Request) : Request.ofCode q.code = some q := by cases q <;> decide

/-- A kind byte that names a request is that request's code. -/
theorem Request.code_of_ofCode {k : Byte} {q : Request} (h : Request.ofCode k = some q) : q.code = k := by
  have := List.find?_some h
  simpa using this

/-- A request's command is a good frame of its kind. -/
theorem exec_command (q : Request) (tag : Byte) (body : Bytes) (s : State) :
    exec (q.command tag body) s = .next (s.goodFrame tag q.code body) := by cases q <;> rfl

theorem State.whenFree_of_free {s : State} (h : s.held = false) (f : State → State) : s.whenFree f = f s := by
  simp [State.whenFree, h]

theorem State.whenFree_of_held {s : State} (h : s.held = true) (f : State → State) : s.whenFree f = s := by
  simp [State.whenFree, h]

theorem State.frameComplete_eq (s : State) : s.frameComplete = s.setPort (s.port.received s.now) := rfl

theorem State.resetPending_setPort_received (s : State) (t : Time) :
    (s.setPort (s.port.received t)).resetPending = s.resetPending := rfl

theorem State.repeatOf_setPort_received (s : State) (t : Time) (tag kind : Byte) (b : Bytes) :
    (s.setPort (s.port.received t)).repeatOf tag kind b = s.repeatOf tag kind b := rfl

/-! ### The byte boundary of SPI mode -/

theorem State.passHead_of_complete {s : State} (h : s.port.headComplete = true) : s.passHead = s.replyLeaves := if_pos h

theorem State.passHead_of_incomplete {s : State} (h : s.port.headComplete = false) : s.passHead = s := by
  simp [State.passHead, h]

@[simp] theorem State.clockFill_zero (s : State) : s.clockFill 0 = s := rfl

@[simp] theorem State.clockFill_succ (n : Nat) (s : State) : s.clockFill (n + 1) = (s.hostByte 0xFF).clockFill n := rfl

/-- With no reply waiting, a byte clocked in clocks none of them out. -/
theorem State.clockOut_of_empty {s : State} (h : s.passHead.port.replies = []) : s.clockOut = s.passHead := if_pos h

/-- A byte clocked in moves the head reply's output on by one. -/
theorem State.clockOut_of_reply {s : State} (h : s.passHead.port.replies ≠ []) :
    s.clockOut = s.passHead.setPort { s.passHead.port with outPos := s.passHead.port.outPos + 1 } := if_neg h

/-! ### Good frames -/

/-- Executing a request leaves the port's own part to its reply. -/
theorem State.executeRequest_setPort (s : State) (p : HostPort) (kind : Byte) (b : Bytes)
    (hm : p.mode = s.port.mode) (hb : p.baudHigh = s.port.baudHigh) :
    (s.setPort p).executeRequest kind b = ((s.executeRequest kind b).1.setPort p, (s.executeRequest kind b).2) := by
  unfold State.executeRequest
  cases h : Request.ofCode kind with
  | none => rfl
  | some q => exact q.answer_setPort b s p hm hb

theorem State.executeRequest_port (s : State) (kind : Byte) (b : Bytes) :
    (s.executeRequest kind b).1.port = s.port := by
  unfold State.executeRequest
  cases h : Request.ofCode kind with
  | none => rfl
  | some q => exact q.answer_port b s

/-- The work of every request keeps the time base, the commands waiting and what holds the part in reset. -/
theorem Request.answer_now (q : Request) (b : Bytes) (s : State) : (q.answer b s).1.now = s.now := by
  cases q
  case configureStation =>
    simp only [Request.answer, answerConfigureStation]; split
    · rfl
    · split
      · rfl
      · split
        · rfl
        · simp
  all_goals
    simp only [Request.answer, answerIdentify, answerResetDevice, answerConfigureLine, answerReadLine,
      answerConfigureRound, answerReadRound, answerDefineSegment, answerDeleteSegment, answerUpdateSegment,
      answerReadSegment, answerStart, answerStop, answerEnableStation, answerDisableStation, answerReadStation,
      answerSubmit, answerCancel, answerReadQueue, answerConfigureInbound, answerTakeMessages, answerFetchReports,
      answerAckReports, answerReadEvents, answerAckEvent, answerMaskEvents, State.refuse]
    repeat' split
    all_goals first | rfl | simp

theorem Request.answer_pending (q : Request) (b : Bytes) (s : State) : (q.answer b s).1.pending = s.pending := by
  cases q
  case configureStation =>
    simp only [Request.answer, answerConfigureStation]; split
    · rfl
    · split
      · rfl
      · split
        · rfl
        · simp
  all_goals
    simp only [Request.answer, answerIdentify, answerResetDevice, answerConfigureLine, answerReadLine,
      answerConfigureRound, answerReadRound, answerDefineSegment, answerDeleteSegment, answerUpdateSegment,
      answerReadSegment, answerStart, answerStop, answerEnableStation, answerDisableStation, answerReadStation,
      answerSubmit, answerCancel, answerReadQueue, answerConfigureInbound, answerTakeMessages, answerFetchReports,
      answerAckReports, answerReadEvents, answerAckEvent, answerMaskEvents, State.refuse]
    repeat' split
    all_goals first | rfl | simp

theorem Request.answer_hold (q : Request) (b : Bytes) (s : State) : (q.answer b s).1.hold = s.hold := by
  cases q
  case configureStation =>
    simp only [Request.answer, answerConfigureStation]; split
    · rfl
    · split
      · rfl
      · split
        · rfl
        · simp
  all_goals
    simp only [Request.answer, answerIdentify, answerResetDevice, answerConfigureLine, answerReadLine,
      answerConfigureRound, answerReadRound, answerDefineSegment, answerDeleteSegment, answerUpdateSegment,
      answerReadSegment, answerStart, answerStop, answerEnableStation, answerDisableStation, answerReadStation,
      answerSubmit, answerCancel, answerReadQueue, answerConfigureInbound, answerTakeMessages, answerFetchReports,
      answerAckReports, answerReadEvents, answerAckEvent, answerMaskEvents, State.refuse]
    repeat' split
    all_goals first | rfl | simp

/-- A frame that is executed: the block's work, and the port with the reply (R162 steps 3 and 4, R166). -/
theorem State.goodFrame_executed {s : State} {tag kind : Byte} {b : Bytes} (h : s.takes tag kind b) :
    s.goodFrame tag kind b
      = (s.executeRequest kind b).1.setPort (s.port.answering s.now tag kind b
          (s.executeRequest kind b).2.status (s.executeRequest kind b).2.fields) := by
  obtain ⟨h1, h2, h3, h4⟩ := h
  rw [State.goodFrame, State.whenFree_of_free h1, State.frameComplete_eq, State.dispatch,
    State.resetPending_setPort_received, if_neg (by simp [h2])]
  have h3' : ¬ Config.replyQueue ≤ (s.setPort (s.port.received s.now)).port.replies.length := by
    show ¬ 4 ≤ s.port.replies.length; omega
  rw [if_neg h3', State.repeatOf_setPort_received, h4]
  show (s.setPort (s.port.received s.now)).execute tag kind b = _
  rw [State.execute, State.executeRequest_setPort s (s.port.received s.now) kind b rfl rfl]
  have hn : (s.executeRequest kind b).1.now = s.now := by
    unfold State.executeRequest
    cases h : Request.ofCode kind with
    | none => rfl
    | some q => exact q.answer_now b s
  show ((s.executeRequest kind b).1.setPort (s.port.received s.now)).replyAndRemember _ _ = _
  unfold State.replyAndRemember HostPort.append HostPort.answering
  simp only [State.setPort_port, State.setPort_now, hn, State.setPort_setPort]
  have hr : (s.port.received s.now).replies = s.port.replies := rfl
  have hh : (s.port.received s.now).headSince = s.port.headSince := rfl
  rw [hr, hh]
  cases h5 : s.port.replies <;> rfl

/-- A request that is taken: exec answers the state of its work, answered (R162 step 4). -/
theorem exec_request {q : Request} {tag : Byte} {b : Bytes} {s : State} (h : s.takes tag q.code b) :
    exec (q.command tag b) s
      = .next (s.answered (q.answer b s).1 q tag b (q.answer b s).2.status (q.answer b s).2.fields) := by
  have e : s.executeRequest q.code b = q.answer b s := by simp [State.executeRequest]
  rw [exec_command, State.goodFrame_executed h, e]; rfl

/-- A repeat: the stored reply again with its REPEAT flag set, and no execution (R162 step 2, R166). -/
theorem State.goodFrame_repeated {s : State} {tag kind : Byte} {b : Bytes} {r : Reply} (h1 : s.held = false)
    (h2 : s.resetPending = false) (h3 : s.port.replies.length < 4) (h4 : s.repeatOf tag kind b = some r) :
    s.goodFrame tag kind b = s.setPort ((s.port.received s.now).append s.now { r with repeated := true }) := by
  rw [State.goodFrame, State.whenFree_of_free h1, State.frameComplete_eq, State.dispatch,
    State.resetPending_setPort_received, if_neg (by simp [h2])]
  have h3' : ¬ Config.replyQueue ≤ (s.setPort (s.port.received s.now)).port.replies.length := by
    show ¬ 4 ≤ s.port.replies.length; omega
  rw [if_neg h3', State.repeatOf_setPort_received, h4]; rfl

/-- Backlog: nothing but the FRAME_ERROR occurrence (R162 step 1). -/
theorem State.goodFrame_backlog {s : State} {tag kind : Byte} {b : Bytes} (h1 : s.held = false)
    (h2 : s.resetPending = false) (h3 : 4 ≤ s.port.replies.length) :
    s.goodFrame tag kind b = (s.setPort (s.port.received s.now)).occur srcFrameError (.frameError .backlog) := by
  rw [State.goodFrame, State.whenFree_of_free h1, State.frameComplete_eq, State.dispatch,
    State.resetPending_setPort_received, if_neg (by simp [h2])]
  have h3' : Config.replyQueue ≤ (s.setPort (s.port.received s.now)).port.replies.length := h3
  rw [if_pos h3', State.frameError, State.resetPending_setPort_received, if_neg (by simp [h2])]; rfl

/-- While a RESET DEVICE reply is pending a good request leaves no trace but that of its bytes (R167). -/
theorem State.goodFrame_discarded {s : State} {tag kind : Byte} {b : Bytes} (h1 : s.held = false)
    (h2 : s.resetPending = true) : s.goodFrame tag kind b = s.setPort (s.port.received s.now) := by
  rw [State.goodFrame, State.whenFree_of_free h1, State.frameComplete_eq, State.dispatch,
    State.resetPending_setPort_received, if_pos h2]

/-- A part held in reset takes no frame (R175). -/
theorem State.goodFrame_held {s : State} {tag kind : Byte} {b : Bytes} (h1 : s.held = true) :
    s.goodFrame tag kind b = s := State.whenFree_of_held h1 _

end Sys2Proof.Machine
end

