-- ==== Sys2Proof/Laws/Time.lean ====
section
/-! SUPPORT. A timed event at its moment: time passes to the moment and the effect follows, or nothing happens. -/

namespace Sys2Proof.Machine

theorem State.reach_of_comes {s : State} {d : Time} (h : s.comes d) : s.reach d = some (s.upTo d) := by
  unfold State.reach State.upTo
  by_cases hd : d ≤ s.now
  · rw [if_pos hd, Nat.max_eq_left hd]; rfl
  · have hn : s.nothingBefore d = true := h.resolve_left hd
    rw [if_neg hd, if_pos hn, Nat.max_eq_right (Nat.le_of_lt (Nat.lt_of_not_le hd))]

/-- A timed event whose moment comes is taken at that moment. -/
theorem State.atMoment_comes {s : State} {d : Time} (h : s.comes d) (f : State → State) :
    s.atMoment (some d) f = f (s.upTo d) := by
  simp [State.atMoment, State.reach_of_comes h]

/-- An event that is not to come changes nothing. -/
@[simp] theorem State.atMoment_none (s : State) (f : State → State) : s.atMoment none f = s := rfl

/-- All that a timed event can do: nothing, or its effect in the state at its moment. -/
theorem State.atMoment_cases (s : State) (d : Option Time) (f : State → State) :
    s.atMoment d f = s ∨ ∃ m, d = some m ∧ s.comes m ∧ s.atMoment d f = f (s.upTo m) := by
  cases d with
  | none => exact Or.inl rfl
  | some m =>
    by_cases h : s.comes m
    · exact Or.inr ⟨m, rfl, h, State.atMoment_comes h f⟩
    · refine Or.inl ?_
      have h1 : ¬ m ≤ s.now := fun x => h (Or.inl x)
      have h2 : ¬ s.nothingBefore m = true := fun x => h (Or.inr x)
      simp [State.atMoment, State.reach, h1, h2]

/-- A property that time passing keeps, and the effect keeps, holds after the event. -/
theorem State.atMoment_keeps {P : State → Prop} {s : State} {d : Option Time} {f : State → State} (hs : P s)
    (hf : ∀ m, d = some m → P (f (s.upTo m))) : P (s.atMoment d f) := by
  rcases s.atMoment_cases d f with h | ⟨m, hd, _, h⟩
  · rw [h]; exact hs
  · rw [h]; exact hf m hd

/-- A property of the state, kept by the effect while the part is free, holds after the command. -/
theorem State.whenFree_keeps {P : State → Prop} {s : State} {f : State → State} (hs : P s)
    (hf : s.held = false → P (f s)) : P (s.whenFree f) := by
  unfold State.whenFree
  by_cases h : s.held = true
  · rw [if_pos h]; exact hs
  · rw [if_neg h]; exact hf (by simpa using h)

@[simp] theorem State.upTo_now (s : State) (d : Time) : (s.upTo d).now = max s.now d := rfl
@[simp] theorem State.upTo_pending (s : State) (d : Time) : (s.upTo d).pending = s.pending := rfl
@[simp] theorem State.upTo_hold (s : State) (d : Time) : (s.upTo d).hold = s.hold := rfl
@[simp] theorem State.upTo_port (s : State) (d : Time) : (s.upTo d).port = s.port := rfl
@[simp] theorem State.upTo_line (s : State) (d : Time) : (s.upTo d).line = s.line := rfl
@[simp] theorem State.upTo_engine (s : State) (d : Time) : (s.upTo d).engine = s.engine := rfl
@[simp] theorem State.upTo_txns (s : State) (d : Time) : (s.upTo d).txns = s.txns := rfl
@[simp] theorem State.upTo_sched (s : State) (d : Time) : (s.upTo d).sched = s.sched := rfl
@[simp] theorem State.upTo_attempt (s : State) (d : Time) : (s.upTo d).attempt = s.attempt := rfl
@[simp] theorem State.upTo_stations (s : State) (d : Time) : (s.upTo d).stations = s.stations := rfl
@[simp] theorem State.upTo_inbound (s : State) (d : Time) : (s.upTo d).inbound = s.inbound := rfl
@[simp] theorem State.upTo_reports (s : State) (d : Time) : (s.upTo d).reports = s.reports := rfl
@[simp] theorem State.upTo_events (s : State) (d : Time) : (s.upTo d).events = s.events := rfl

end Sys2Proof.Machine
end

