-- ==== Sys2Proof/Laws/Steps.lean ====
section
/-! SUPPORT. All that a step can do to a property outside the Host Port: one hypothesis per operation a command comes to,
with what holds when the command takes it. An invariant is proved by giving these, and no step is unfolded again. -/

namespace Sys2Proof.Machine

/-- The phases in which the talk limit runs. -/
def Phase.talks : Phase → Prop
  | .receiving _ | .trailer _ | .ignoring _ => True
  | .sending | .guard | .waiting _ | .reclaiming => False

/-- The property is kept by every operation a step can come to. -/
structure Keeps (P : State → Prop) : Prop where
  now : ∀ s v, P s → P (s.setNow v)
  pending : ∀ s v, P s → P (s.setPending v)
  hold : ∀ s v, P s → P (s.setHold v)
  port : ∀ s v, P s → P (s.setPort v)
  reset : ∀ s, P s → P s.deviceReset
  hostError : ∀ s e, P s → P (s.occur srcFrameError (.frameError e))
  request : ∀ (q : Request) b s, P s → P (q.answer b s).1
  settle : ∀ s, P s → s.engine.state = .settling → s.isQuiet = true → P s.settleExpired
  round : ∀ s missing, P s → s.engine.state = .running ∨ s.engine.state = .settling → s.isQuiet = true →
    P (s.startRound missing)
  trig : ∀ s, P s → P s.trigEdge
  segment : ∀ s, P s → s.engine.state = .running ∨ s.engine.state = .stopping → s.isQuiet = true → P s.sendSegment
  opening : ∀ s, P s → s.engine.state = .running → s.isQuiet = true → P s.openGap
  gapEnd : ∀ s, P s → P s.closeGap
  roundEnd : ∀ s, P s → s.engine.state = .stopping → s.isQuiet = true → P s.enterStopped
  fault : ∀ s, P s → s.engine.state.inRun = true → s.isQuiet = true → P s.enterHalted
  sample : ∀ s m, P s → s.isQuiet = true → P (s.setActivity (.quiet m))
  sent : ∀ s f, P s → s.line.activity = .sending f → P (s.frameSent f)
  contend : ∀ s, P s → P s.contend
  guard : ∀ s, P s → P s.guardEnded
  start : ∀ s, P s → P s.stationStart
  expired : ∀ s x, P s → s.phase = some (.waiting x) → P s.responseExpired
  deliver : ∀ s bytes e r, P s → s.line.activity = .listening r → P (s.deliver bytes e)
  talk : ∀ s p, P s → s.phase = some p → p.talks → P s.talkExpired
  reclaimed : ∀ s x, P s → s.line.activity = .reclaim x → P s.reclaimed

namespace Keeps

variable {P : State → Prop} (k : Keeps P)

include k

theorem upTo {s : State} (d : Time) (h : P s) : P (s.upTo d) := k.now s _ h

theorem frameError {s : State} (e : FrameError) (h : P s) : P (s.frameError e) := by
  unfold State.frameError
  split
  · exact k.port _ _ h
  · exact k.hostError _ _ (k.port _ _ h)

theorem replyLeaves {s : State} (h : P s) : P s.replyLeaves := by
  unfold State.replyLeaves
  split
  · exact h
  · split
    · exact k.hold _ _ (k.reset _ h)
    · exact k.port _ _ h

theorem executeRequest {s : State} (kind : Byte) (b : Bytes) (h : P s) : P (s.executeRequest kind b).1 := by
  unfold State.executeRequest
  split
  · exact h
  · exact k.request _ _ _ h

theorem dispatch {s : State} (tag kind : Byte) (b : Bytes) (h : P s) : P (s.dispatch tag kind b) := by
  unfold State.dispatch
  split
  · exact h
  · split
    · exact k.frameError _ h
    · split
      · exact k.port _ _ h
      · exact k.port _ _ (k.executeRequest _ _ h)

theorem frameComplete {s : State} (h : P s) : P s.frameComplete := k.port _ _ (k.port _ _ h)

theorem goodFrame {s : State} (tag kind : Byte) (b : Bytes) (h : P s) : P (s.goodFrame tag kind b) :=
  State.whenFree_keeps h fun _ => k.dispatch _ _ _ (k.frameComplete h)

theorem judgeHostFrame {s : State} (tag kind : Byte) (b : Bytes) (chk : BitVec 16) (h : P s) :
    P (s.judgeHostFrame tag kind b chk) := by
  unfold State.judgeHostFrame
  split
  · exact k.dispatch _ _ _ (k.frameComplete h)
  · exact k.frameError _ (k.frameComplete h)

theorem lengthTaken {s : State} (n : Nat) (h : P s) : P (s.lengthTaken n) := by
  unfold State.lengthTaken
  split
  · exact k.port _ _ h
  · exact k.frameError _ h

theorem secondCheckByte {s : State} (c : Bytes) (chk : BitVec 16) (h : P s) : P (s.secondCheckByte c chk) := by
  unfold State.secondCheckByte
  split
  · exact k.judgeHostFrame _ _ _ _ h
  · exact k.frameError _ (k.frameComplete h)

theorem parseByte {s : State} (b : Byte) (h : P s) : P (s.parseByte b) := by
  unfold State.parseByte
  split
  · split
    · exact k.port _ _ h
    · exact h
  · exact k.port _ _ h
  · exact k.lengthTaken _ h
  · exact k.port _ _ h
  · exact k.port _ _ h
  · exact k.secondCheckByte _ _ h

theorem passHead {s : State} (h : P s) : P s.passHead := by
  unfold State.passHead
  split
  · exact k.replyLeaves h
  · exact h

theorem clockOut {s : State} (h : P s) : P s.clockOut := by
  unfold State.clockOut
  split
  · exact k.passHead h
  · exact k.port _ _ (k.passHead h)

theorem hostByte {s : State} (b : Byte) (h : P s) : P (s.hostByte b) := by
  unfold State.hostByte
  have h' : P (match s.port.mode with | .spi => s.clockOut | .uart => s) := by
    split
    · exact k.clockOut h
    · exact h
  exact State.whenFree_keeps h' fun _ => k.parseByte _ (k.port _ _ h')

theorem clockFill (n : Nat) : ∀ {s : State}, P s → P (s.clockFill n) := by
  induction n with
  | zero => exact fun h => h
  | succ n ih => exact fun h => ih (k.hostByte _ h)

theorem csRise {s : State} (h : P s) : P s.csRise := by
  unfold State.csRise
  dsimp only
  split
  · exact k.port _ _ (k.passHead h)
  · exact k.frameError _ (k.port _ _ (k.passHead h))

theorem monitored {s : State} (m : StuckMonitor) (h : P s) (hr : s.engine.state.inRun = true) (hq : s.isQuiet = true) :
    P (s.monitored m) := by
  unfold State.monitored
  split
  · exact k.fault _ h hr hq
  · exact k.sample _ m h hq

theorem endCause {s : State} (c : ReleaseCause) (m b : Bool) (h : P s) : P (s.endCause c m b) := by
  unfold State.endCause
  dsimp only
  split
  · exact k.hold _ _ h
  · exact k.port _ _ (k.hold _ _ (k.reset _ h))

omit k in
/-- A property that time passing keeps, and the effect keeps where the event is due, holds after the event. -/
theorem atMoment {s : State} {d : Option Time} {f : State → State} (hs : P s)
    (hf : ∀ m, d = some m → P (f (s.upTo m))) : P (s.atMoment d f) := State.atMoment_keeps hs hf

/-- A command keeps the property. -/
theorem exec {s t : State} {c : Instr} (h : P s) (e : exec c s = .next t) : P t := by
  cases c
  case check tag kind body chk =>
    cases e; exact State.whenFree_keeps h fun _ => k.judgeHostFrame _ _ _ _ h
  case oversize len =>
    cases e; exact State.whenFree_keeps h fun _ => k.lengthTaken _ (k.port _ _ h)
  case timeout =>
    cases e; exact State.whenFree_keeps h fun _ => atMoment h fun _ _ => k.frameError _ (k.upTo _ h)
  case csRise =>
    cases e
    exact State.whenFree_keeps h fun _ => by
      split
      · exact k.csRise h
      · exact h
  case replyLeavesQueue =>
    cases e
    exact State.whenFree_keeps h fun _ => by
      split
      · exact atMoment h fun _ _ => k.replyLeaves (k.upTo _ h)
      · split
        · exact h
        · exact k.passHead (k.clockFill _ h)
  case resetPinLow => cases e; exact k.hold _ _ (k.reset _ h)
  case powerOn => cases e; exact k.hold _ _ (k.reset _ h)
  case resetRelease cause m b =>
    cases e
    split
    · exact h
    · split
      · exact k.endCause _ _ _ h
      · exact k.endCause _ _ _ h
      · exact atMoment h fun _ _ => k.endCause _ _ _ (k.upTo _ h)
  case settleTimerExpiry =>
    cases e
    refine State.whenFree_keeps h fun _ => atMoment h fun m hm => ?_
    simp only [State.dueAt] at hm
    split at hm
    · next hc => exact k.settle _ (k.upTo _ h) hc.1 hc.2
    · cases hm
  case trigEdge => cases e; exact State.whenFree_keeps h fun _ => k.trig _ h
  case roundStart =>
    cases e
    refine State.whenFree_keeps h fun _ => atMoment h fun m hm => ?_
    simp only [State.dueAt] at hm
    split at hm
    · next hc =>
      refine k.round _ _ (k.upTo _ h) ?_ hc
      show s.engine.state = .running ∨ s.engine.state = .settling
      unfold Engine.roundStartAt at hm
      split at hm
      · next h1 _ => exact Or.inl h1
      · next h1 _ => exact Or.inl h1
      · next h1 _ => exact Or.inr h1
      all_goals cases hm
    · cases hm
  case segmentFrame =>
    cases e
    refine State.whenFree_keeps h fun _ => atMoment h fun m hm => ?_
    simp only [State.dueAt] at hm
    split at hm
    · split at hm
      · next hc => exact k.segment _ (k.upTo _ h) hc.2 hc.1
      · cases hm
    · cases hm
  case gapOpening =>
    cases e
    refine State.whenFree_keeps h fun _ => atMoment h fun m hm => ?_
    simp only [State.dueAt] at hm
    split at hm
    · split at hm
      · next hc => exact k.opening _ (k.upTo _ h) hc.2 hc.1
      · cases hm
    · cases hm
  case gapEnd => cases e; exact State.whenFree_keeps h fun _ => atMoment h fun _ _ => k.gapEnd _ (k.upTo _ h)
  case roundEndStopping =>
    cases e
    refine State.whenFree_keeps h fun _ => atMoment h fun m hm => ?_
    simp only [State.dueAt] at hm
    split at hm
    · next hc => exact k.roundEnd _ (k.upTo _ h) hc.1 hc.2
    · cases hm
  case frameSent =>
    cases e
    refine State.whenFree_keeps h fun _ => atMoment h fun m hm => ?_
    split
    · next f hf => exact k.sent _ _ (k.upTo _ h) hf
    all_goals exact k.upTo _ h
  case contention =>
    cases e; exact State.whenFree_keeps h fun _ => atMoment h fun _ _ => k.contend _ (k.upTo _ h)
  case guardEnd => cases e; exact State.whenFree_keeps h fun _ => atMoment h fun _ _ => k.guard _ (k.upTo _ h)
  case stationStart low =>
    cases e
    refine State.whenFree_keeps h fun _ => ?_
    split
    · exact k.start _ h
    · exact h
  case responseTimerExpiry =>
    cases e
    refine State.whenFree_keeps h fun _ => atMoment h fun m hm => ?_
    simp only [State.dueAt] at hm
    split at hm
    · next x hc => exact k.expired _ x (k.upTo _ h) hc
    all_goals cases hm
  case decodedFrame ts =>
    cases e
    refine State.whenFree_keeps h fun _ => ?_
    dsimp only
    split
    · exact h
    · refine atMoment h fun m hm => ?_
      unfold State.frameEndAt at hm
      split at hm
      · next r hr => exact k.deliver _ _ _ _ (k.upTo _ h) hr
      · next r hr => exact k.deliver _ _ _ _ (k.upTo _ h) hr
      all_goals cases hm
  case talkLimitExpiry =>
    cases e
    refine State.whenFree_keeps h fun _ => atMoment h fun m hm => ?_
    simp only [State.dueAt] at hm
    split at hm
    · next hc => exact k.talk _ _ (k.upTo _ h) hc trivial
    · next hc => exact k.talk _ _ (k.upTo _ h) hc trivial
    · next hc => exact k.talk _ _ (k.upTo _ h) hc trivial
    all_goals cases hm
  case reclaimEnd =>
    cases e
    refine State.whenFree_keeps h fun _ => atMoment h fun m hm => ?_
    simp only [State.dueAt] at hm
    split at hm
    · next x hc => exact k.reclaimed _ x (k.upTo _ h) hc
    all_goals cases hm
  case lineFault levels =>
    cases e
    refine State.whenFree_keeps h fun _ => ?_
    split
    · next m hm =>
      refine atMoment h fun d hd => ?_
      unfold State.stuckAfter at hm
      split at hm
      · next hc =>
        split at hm
        · next hr => exact k.monitored m (k.upTo _ h) hr (by show s.isQuiet = true; unfold State.isQuiet; rw [hc]; rfl)
        · cases hm
      all_goals cases hm
    · exact h
  case parserByteTaken b => cases e; exact State.whenFree_keeps h fun _ => k.hostByte _ h
  all_goals cases e; exact k.goodFrame _ _ _ h

/-- A step keeps the property. -/
theorem step {s t : State} (h : P s) (e : Machine.step s = .next t) : P t := by
  unfold Machine.step at e
  split at e
  · unfold State.idle at e
    split at e
    · exact k.exec h e
    · cases e; exact k.now _ _ h
  · exact k.exec (k.pending _ _ h) e

end Keeps

end Sys2Proof.Machine
end

