-- ==== Sys2Proof/Tests/Slice0.lean ====
section
/-! SUPPORT. Tests: the well-formedness checks refuse what they should, single steps give what the spec's worked examples
give, and for every obligation with hypotheses a concrete state and operands that meet them. -/

namespace Sys2Proof.Tests

open Sys2Proof Sys2Proof.Machine

set_option Elab.async false

/-! ### Well-formed commands -/

theorem test_wf_body_of_1028_bytes_accepted : (Instr.identify 1 (List.replicate 1028 0)).wf = true := by
  decide +kernel
theorem test_wf_body_of_1029_bytes_refused : (Instr.identify 1 (List.replicate 1029 0)).wf = false := by
  decide +kernel
theorem test_wf_unknown_request_accepted : (Instr.unknownRequest 1 0x03 []).wf = true := by decide +kernel
theorem test_wf_unknown_request_of_a_known_kind_refused : (Instr.unknownRequest 1 0x01 []).wf = false := by decide +kernel
theorem test_wf_wrong_check_accepted : (Instr.check 1 0x01 [] (frameCheck 1 0x01 [] + 1)).wf = true := by decide +kernel
theorem test_wf_right_check_refused : (Instr.check 1 0x01 [] (frameCheck 1 0x01 [])).wf = false := by decide +kernel
theorem test_wf_oversize_accepted : (Instr.oversize 1).wf = true ∧ (Instr.oversize 1031).wf = true := by decide +kernel
theorem test_wf_length_in_range_refused : (Instr.oversize 2).wf = false ∧ (Instr.oversize 1030).wf = false := by decide +kernel
theorem test_wf_decoded_frame_accepted : (Instr.decodedFrame [dataByteTime 7, turnPattern]).wf = true := by decide +kernel
theorem test_wf_unfinished_frame_refused : (Instr.decodedFrame [dataByteTime 7]).wf = false := by decide +kernel
theorem test_wf_bytes_after_the_end_refused :
    (Instr.decodedFrame [endPattern, dataByteTime 7]).wf = false := by decide +kernel

theorem test_wf_line_levels_accepted : (Instr.lineFault [false]).wf = true := by decide
theorem test_wf_no_line_levels_refused : (Instr.lineFault []).wf = false := by decide

/-! ### Small states -/

/-- The state a command leads to. -/
def after (c : Instr) (s : State) : State :=
  match exec c s with
  | .next t => t
  | .fault _ => s
  | .refused _ => s

/-- The part in a run: round 5 has started at 0, the line is QUIET. -/
def running : State :=
  (State.reset.setEngine { Engine.reset with state := .running, counter := 5, prevStart := some 0 }).setLine
    { config := .default, activity := .quiet ⟨0, 0⟩, contentions := 0 }

/-- Station 3 ONLINE with all four channels and M = 64 (the identity of section 11.6 but for its channel set). -/
def online : Station :=
  { Station.reset with
    state := .online
    identity := some { typeCode := 0x1234, revision := 3, channels := 0xF, maxLength := 64, serialLow := 7 }
    seqNext := true }

/-- A due record to station 3, channel 1, with 8 bytes. -/
def record (k : TxnKind) (id : Nat) : Record :=
  { id := id, kind := k, target := .station 3, channel := 1, length := 8, payload := [1, 2, 3, 4, 5, 6, 7, 8],
    placement := .closing, delay := 0, lifetime := none, retryBudget := 1,
    anchor := some { earliest := 5, expiry := none }, due := true, attempts := 0, onLine := false,
    cancelRequested := false, last := none }

/-- A run with station 3 ONLINE and this list. -/
def withList (l : List Record) : State := (running.setStation 3 online).setTxns l

/-- The attempt of this record in a phase, as the run would create it. -/
def attemptOf (r : Record) (p : Phase) : Attempt := { (withList [r]).newAttempt r with phase := p }

/-- The record ON_LINE with its attempt in a phase, the line in a state. -/
def onLineIn (r : Record) (p : Phase) (a : LineActivity) : State :=
  ((withList [{ r with onLine := true }]).setAttempt (some (attemptOf r p))).setActivity a

/-- The WRITE of section 1.6's example. -/
def aWrite : Record := record .write 1

/-- The frame of that WRITE, started at 0. -/
def writeFrame : SendFrame := (withList [aWrite]).txnFrame aWrite

/-- The Host Port of the UART mode. -/
def uart (s : State) : State := s.setPort { s.port with mode := .uart }

/-- A reply of this kind. -/
def reply (kind : Byte) : Reply := { tag := 9, kind := kind, status := .ok, repeated := false, fields := [] }

/-- The state with these replies queued. -/
def withReplies (s : State) (l : List Reply) : State := s.setPort { s.port with replies := l }

/-- The state with the parser in a phase. -/
def parsing (s : State) (p : Parser) : State := s.setPort { s.port with parser := p }

/-- An EVENT report of source 41 and a COMPLETION report. -/
def anEvent : ReportBody := .event { source := 41, count := 1, detail := some (.engine .running), round := 1 }
def aCompletion : ReportBody := .completion (aWrite.plainCompletion .expired 5)

/-- The table of section 2.4's example. -/
def segmentOf (k : SegmentIndex) (l : Nat) : Segment :=
  { index := k, destination := .broadcast, channel := 0, active := List.replicate l 0, staged := none,
    freshness := 2, age := 0 }
def exampleTable : List Segment := [segmentOf 0 16, segmentOf 2 8, segmentOf 5 32]
def exampleRound : RoundConfig := { RoundConfig.default with segmentGap := 30 }

/-! ### The spec's worked examples -/

/-- Section 1.4: the CRC of "123456789". -/
theorem test_crc_of_the_nine_digits :
    crc16 [0x31, 0x32, 0x33, 0x34, 0x35, 0x36, 0x37, 0x38, 0x39] = 0x29B1 := by decide +kernel

/-- Section 11.5: an ACK header. -/
def ackHeader : Header :=
  { kind := 0x11, seq := true, turn := true, mark := false, station := 3, channel := 1, length := 0 }
theorem test_ack_header_bytes : headerBytes ackHeader.codeWord = [0x0C, 0x6F, 0x05, 0x00] := by decide +kernel
theorem test_ack_header_with_position_13_inverted :
    classifyHeader (codeWordOf [0x0C, 0x4F, 0x05, 0x00]) = (.corrected, ackHeader) := by decide +kernel
theorem test_ack_header_with_positions_13_and_6_inverted :
    (classifyHeader (codeWordOf [0x4C, 0x4F, 0x05, 0x00])).1 = .uncorrectable := by decide +kernel
theorem test_ack_header_with_check_bit_5_inverted :
    classifyHeader (codeWordOf [0x0D, 0x6F, 0x05, 0x00]) = (.corrected, ackHeader) := by decide +kernel

/-- Section 11.6: the IDENT payload. -/
theorem test_identity_of_the_example :
    decodeIdentity [0x34, 0x12, 0x03, 0x0B, 0x40, 0x00, 0x07, 0x00]
      = some { typeCode := 0x1234, revision := 3, channels := 0xB, maxLength := 64, serialLow := 7 } := by decide +kernel
theorem test_identity_length_256_valid_257_not :
    (decodeIdentity [0, 0, 0, 0, 0x00, 0x01, 0, 0]).isSome = true
      ∧ (decodeIdentity [0, 0, 0, 0, 0x01, 0x01, 0, 0]).isSome = false := by decide +kernel

/-- Section 2.4: the layout of the example round, at eight units to a bit time. -/
theorem test_layout_of_the_example_round :
    agenda .default exampleRound exampleTable 0
      = [.segment 640 0, .gap 2560 (.afterSegment 0) 3520, .segment 3520 2, .gap 4800 (.afterSegment 2) 5760,
         .segment 5760 5, .gap 8960 .closing 32000] := by decide +kernel
theorem test_fixed_part_of_the_example_round :
    fixedPart .default exampleRound exampleTable = 1120
      ∧ fixedPart .default .default exampleTable = 920 := by decide +kernel
theorem test_no_transaction_fits_the_segment_gaps_of_the_example :
    canFit .default exampleRound exampleTable (.afterSegment 0) 110 = false
      ∧ canFit .default exampleRound exampleTable (.afterSegment 5) 110 = true := by decide +kernel

/-- Section 1.6: one WRITE attempt, step by step. -/
theorem test_write_reserves_584_bit_times : (withList [aWrite]).reservation aWrite = 584 := by decide +kernel
theorem test_write_frame_ends_at_180 : writeFrame.endAt = 180 * 8 := by decide +kernel
theorem test_write_frame_sent_offers_the_line :
    (after .frameSent (onLineIn aWrite .sending (.sending writeFrame))).line.activity = .offered (212 * 8) := by decide +kernel
theorem test_guard_end_starts_the_response_timer :
    ((after .guardEnd (onLineIn aWrite .guard (.offered (212 * 8)))).attempt.map Attempt.phase)
      = some (.waiting (412 * 8)) := by decide +kernel
theorem test_ack_ends_the_turn :
    (let t := after (.decodedFrame ([0x0C, 0x6F, 0x05, 0x00].map dataByteTime ++ [turnPattern]))
        (onLineIn aWrite (.receiving (400 * 8)) (.listening (.inFrame (260 * 8))))
     (t.line.activity, t.attempt.map Attempt.provisional)) = (.reclaim (352 * 8), some (some .done)) := by decide +kernel
theorem test_damaged_ack_sets_header_corrected :
    ((after (.decodedFrame ([0x0C, 0x4F, 0x05, 0x00].map dataByteTime ++ [turnPattern]))
        (onLineIn aWrite (.receiving (400 * 8)) (.listening (.inFrame (260 * 8))))).attempt.map
          fun a => (a.provisional, a.flags.headerCorrected)) = some (some .done, true) := by decide +kernel

/-- Chapter 9, the SPI session: the FETCH REPORTS reply of two EVENT reports is a frame of 35 bytes. -/
theorem test_fetch_reply_of_the_spi_session :
    (((after (.fetchReports 0x11 [16])
        (State.reset.setReports { queue := [⟨40, anEvent⟩, ⟨41, anEvent⟩], nextSeq := 42 })).port.replies.map
          Reply.size)) = [35] := by decide +kernel
theorem test_ack_reports_repeated_with_a_new_tag_is_refused :
    (((after (.ackReports 0x13 [41, 0]) (after (.ackReports 0x12 [41, 0])
        (State.reset.setReports { queue := [⟨40, anEvent⟩, ⟨41, anEvent⟩], nextSeq := 42 }))).port.replies.map
          Reply.status)) = [.ok, .notFound] := by decide +kernel

/-- A reply on SDO at the first boundary of a transfer, and the next one right behind it; on TXD its start byte 0xA5 from the
start bit on, and idle after it. -/
theorem test_sdo_at_the_first_boundary : (withReplies State.reset [reply 0x91]).sdoByte true = some 0xA5 := by decide +kernel
theorem test_sdo_of_the_reply_behind :
    (let s := withReplies State.reset [reply 0x91, reply 0x90]
     ((s.setPort { s.port with outPos := 9 }).sdoByte true, (s.setPort { s.port with outPos := 9 }).sdoByte false))
      = (some 0xA5, none) := by decide +kernel
theorem test_txd_levels_of_the_start_byte :
    ((List.range 10).map fun i =>
        ((uart (withReplies State.reset [reply 0x91])).setNow ((i * 25000 + 1250) / 90)).txd)
      = [false, true, false, true, false, false, true, false, true, true].map some := by decide +kernel

/-- Fill clocked in with a reply is taken by a parser inside a frame. -/
theorem test_fill_reaches_the_parser :
    (after .replyLeavesQueue (parsing (withReplies State.reset [reply 0x91]) (.content 20 []))).port.parser
      = .content 20 (List.replicate 9 0xFF) := by decide +kernel

/-- The SYNC of round 1 goes out at the settle timer's expiry, 200 microseconds after START. -/
theorem test_start_then_settle_timer_expiry :
    (let t := after .settleTimerExpiry (after (.start 1 []) State.reset)
     (t.engine.state, t.engine.counter, t.now, t.line.activity.state)) = (.running, 1, 6400, .sending) := by decide +kernel

/-! ### Every statement's hypotheses are met: steps, resets, the Host Port -/

/-- A good frame is executed right after reset. -/
theorem takes_reset (tag kind : Byte) (body : Bytes) : State.reset.takes tag kind body :=
  ⟨rfl, rfl, by decide, rfl⟩

theorem test_meets_StepRunsTheFrontCommand :
    (State.reset.setPending [.csRise]).pending = [.csRise] ∧ State.reset.pending = [] ∧ State.reset.dueNow = none
      ∧ (onLineIn aWrite .guard (.offered 0)).pending = []
      ∧ (onLineIn aWrite .guard (.offered 0)).dueNow = some .guardEnd := by decide +kernel

theorem test_meets_ResetCommands :
    (State.reset.setHold ⟨true, false, none⟩).hold = ⟨true, false, none⟩
      ∧ (State.reset.setHold ⟨false, true, none⟩).hold = ⟨false, true, none⟩
      ∧ (State.reset.setHold ⟨false, false, some 320⟩).hold = ⟨false, false, some 320⟩
      ∧ (State.reset.setHold ⟨false, false, some 320⟩).comes 320
      ∧ (State.reset.setHold ⟨true, true, none⟩).hold.pinLow = true
      ∧ (State.reset.setHold ⟨true, true, none⟩).hold.powerAbsent = true
      ∧ (State.reset.setHold ⟨true, true, none⟩).held = true := by
  unfold State.comes; decide +kernel

theorem test_meets_ResetDeviceWaitsForItsReply :
    State.reset.takes 1 0x02 [] ∧ State.reset.takes 1 0x02 [0] ∧ (withReplies State.reset [reply 0x82]).held = false
      ∧ (withReplies State.reset [reply 0x82]).port.replies = [reply 0x82] ∧ (reply 0x82).kind = 0x82
      ∧ (reply 0x82).status = .ok ∧ (withReplies State.reset [reply 0x82]).port.mode = .spi
      ∧ (uart (withReplies State.reset [reply 0x82])).port.mode = .uart
      ∧ (uart (withReplies State.reset [reply 0x82])).comes (0 + HostPort.reset.txDuration (reply 0x82)) := by
  refine ⟨takes_reset _ _ _, takes_reset _ _ _, ?_⟩
  unfold State.comes; decide +kernel

theorem test_meets_RequestIsExecutedAndAnswered : State.reset.takes 1 Request.readLine.code [] := takes_reset _ _ _

/-- The Host Port once a READ LINE of tag 1 has been answered. -/
def remembered : State := after (.readLine 1 []) State.reset

theorem test_meets_FatesOfAGoodFrame :
    (∀ q : Request, q.code ≠ 0x03) ∧ State.reset.takes 1 0x03 []
      ∧ (remembered.held = false ∧ remembered.resetPending = false ∧ remembered.port.replies.length < 4
        ∧ remembered.port.repeatRecord.map (fun m => (m.tag, m.check)) = some (1, frameCheck 1 0x11 []))
      ∧ 4 ≤ (withReplies State.reset (List.replicate 4 (reply 0x91))).port.replies.length
      ∧ (withReplies State.reset (List.replicate 4 (reply 0x91))).resetPending = false
      ∧ (withReplies State.reset [reply 0x82]).resetPending = true := by
  refine ⟨fun q => by cases q <;> decide, takes_reset _ _ _, ?_⟩
  decide +kernel

theorem test_meets_ParserErrorsDiscardTheFrame :
    State.reset.held = false ∧ State.reset.resetPending = false
      ∧ (withReplies State.reset [reply 0x82]).resetPending = true ∧ (0x1234 : BitVec 16) ≠ frameCheck 1 0x01 []
      ∧ (1#16).toNat < 2 ∧ 1030 < (1031#16).toNat ∧ State.reset.port.parser = .hunting
      ∧ (parsing (uart State.reset) (.length none)).port.mode = .uart
      ∧ (parsing (uart State.reset) (.length none)).port.parser ≠ .hunting
      ∧ (parsing (uart State.reset) (.length none)).comes (0 + micros 2000)
      ∧ (parsing State.reset (.length none)).port.mode = .spi
      ∧ (parsing State.reset (.length none)).port.parser ≠ .hunting
      ∧ (parsing State.reset (.length none)).port.headComplete = false := by
  unfold State.comes; decide +kernel

/-- The head reply, of 9 bytes, out in full. -/
def outInFull (r : Reply) : State :=
  (withReplies State.reset [r]).setPort { (withReplies State.reset [r]).port with outPos := 9 }

theorem test_meets_RepliesLeaveFromTheHead :
    (reply 0x91).bringsReset = false ∧ (uart (withReplies State.reset [reply 0x91])).port.mode = .uart
      ∧ (uart (withReplies State.reset [reply 0x91])).comes (0 + HostPort.reset.txDuration (reply 0x91))
      ∧ (outInFull (reply 0x91)).port.mode = .spi ∧ (outInFull (reply 0x91)).port.parser = .hunting
      ∧ (reply 0x91).size ≤ (outInFull (reply 0x91)).port.outPos
      ∧ (withReplies State.reset [reply 0x91]).port.headComplete = false
      ∧ (withReplies State.reset [reply 0x91]).port.outPos < (reply 0x91).size
      ∧ (uart State.reset).port.replies = [] ∧ State.reset.port.replies = []
      ∧ (outInFull (reply 0x82)).port.replies = [reply 0x82] ∧ (reply 0x82).bringsReset = true
      ∧ (reply 0x82).size ≤ (outInFull (reply 0x82)).port.outPos := by
  unfold State.comes; decide +kernel

theorem test_meets_ParserTakesOneByte :
    State.reset.held = false ∧ State.reset.resetPending = false ∧ State.reset.port.headComplete = false
      ∧ ([true] : List Bool).length < 8 ∧ (0xA4 : Byte) ≠ 0xA5 ∧ (parsing State.reset (.length none)).port.parser = .length none
      ∧ (2 ≤ (2#8).toNat + 256 * (0#8).toNat ∧ (6#8).toNat + 256 * (4#8).toNat = 1030)
      ∧ ((1#8).toNat + 256 * (0#8).toNat < 2 ∧ (7#8).toNat + 256 * (4#8).toNat = 1031)
      ∧ ([1#8].length + 1 < 3 ∧ 2 ≤ [1#8].length + 1)
      ∧ (parsing State.reset (.check [1, 0x01] (some ((frameCheck 1 0x01 []).truncate 8)))).port.parser
          = .check (1 :: 0x01 :: []) (some ((frameCheck 1 0x01 []).truncate 8))
      ∧ (frameCheck 1 0x01 []).extractLsb' 8 8 ++ (frameCheck 1 0x01 []).truncate 8 = frameCheck 1 0x01 []
      ∧ ((frameCheck 1 0x01 []).extractLsb' 8 8 + 1) ++ (frameCheck 1 0x01 []).truncate 8 ≠ frameCheck 1 0x01 [] := by
  decide +kernel

theorem test_meets_BytesOfAFrameAreTheRequest :
    State.reset.held = false ∧ State.reset.port.parser = .hunting ∧ (uart State.reset).port.mode = .uart
      ∧ State.reset.port.replies = [] ∧ (List.replicate 1028 (0 : Byte)).length ≤ 1028
      ∧ Request.identify.code = 0x01 := by decide +kernel

/-! ### Requests -/

theorem test_meets_WhatARequestMayChange :
    Request.readLine.reads = true ∧ State.reset.takes 1 Request.readLine.code []
      ∧ State.reset.takes 1 Request.readLine.code [0] ∧ (Request.readLine.answer [0] State.reset).2.status ≠ .ok :=
  ⟨rfl, takes_reset _ _ _, takes_reset _ _ _, by decide +kernel⟩

theorem test_meets_IdentifyReply : State.reset.takes 1 0x01 [] ∧ State.reset.takes 1 0x01 [0] :=
  ⟨takes_reset _ _ _, takes_reset _ _ _⟩

/-- Right after an accepted START. -/
def settling : State := after (.start 1 []) State.reset

theorem test_meets_ReadLineReply :
    State.reset.takes 1 0x11 [] ∧ State.reset.lineSafe ∧ State.reset.engine.state = .stopped
      ∧ settling.lineSafe ∧ settling.engine.state = .settling := by
  refine ⟨takes_reset _ _ _, ?_, rfl, ?_, by decide +kernel⟩
  · exact ⟨by decide +kernel, by decide +kernel, by decide +kernel, trivial⟩
  · exact ⟨by decide +kernel, by decide +kernel, by decide +kernel, trivial⟩

theorem test_meets_ReadRoundReply (h : Obligations.ReadRoundReply) :
    exec (.readRound 1 []) State.reset = .next (State.reset.answered State.reset .readRound 1 [] .ok
      (le1 0 ++ le4 0 ++ le1 0 ++ le2 1000 ++ le2 0 ++ le2 1000 ++ le2 65535 ++ le2 200 ++ le2 0 ++ le2 50
        ++ le4 15 ++ le2 985)) :=
  h 1 [] State.reset _ _ (takes_reset _ _ _) rfl rfl

theorem test_meets_ConfigureLineAndRound : State.reset.takes 1 0x10 [] ∧ State.reset.takes 1 0x14 [] :=
  ⟨takes_reset _ _ _, takes_reset _ _ _⟩

theorem test_meets_ConfigureStation :
    State.reset.takes 1 0x30 [7, 15, 0, 1, 1, 0, 15, 31] ∧ ([] : Bytes).length ≠ 8
      ∧ 7 < u8 [8, 15, 0, 1, 1, 0, 15, 31] 0 ∧ ([7, 15, 0, 1, 1, 0, 15, 31] : Bytes).length = 8
      ∧ u8 [7, 15, 0, 1, 1, 0, 15, 31] 0 = (7 : StationId).val := ⟨takes_reset _ _ _, by decide +kernel⟩

theorem test_meets_DefineAndDeleteSegment :
    tableSafe State.reset.engine.table ∧ State.reset.takes 1 0x20 [31, 15, 3, 255, 9]
      ∧ (([31, 15, 3, 255] : Bytes).length < 5 ∧ 260 < (List.replicate 261 (0 : Byte)).length)
      ∧ (31 < u8 [32, 15, 3, 255, 9] 0 ∧ 7 < u8 [31, 8, 3, 255, 9] 1 ∧ u8 [31, 8, 3, 255, 9] 1 ≠ 15
        ∧ 3 < u8 [31, 15, 4, 255, 9] 2)
      ∧ (∃ g : Segment, g.index.val = u8 [31, 15, 3, 255, 9] 0 ∧ g.destination.code = u8 [31, 15, 3, 255, 9] 1
        ∧ g.channel.val = u8 [31, 15, 3, 255, 9] 2 ∧ g.freshness = u8 [31, 15, 3, 255, 9] 3
        ∧ g.active = ([31, 15, 3, 255, 9] : Bytes).drop 4 ∧ g.staged = none ∧ g.age = 0)
      ∧ (running.engine.state ≠ .stopped ∧ running.engine.state ≠ .halted ∧ State.reset.engine.state = .stopped)
      ∧ State.reset.takes 1 0x21 [31] := by
  refine ⟨⟨.nil, by simp [State.reset, Engine.reset], by decide⟩, takes_reset _ _ _, by decide +kernel,
    by decide +kernel, ⟨⟨31, .broadcast, 3, [9], none, 255, 0⟩, by decide +kernel⟩, by decide +kernel, takes_reset _ _ _⟩

/-- The part at rest with the example table. -/
def withTable : State := State.reset.setEngine { Engine.reset with table := exampleTable }

theorem test_meets_UpdateAndReadSegment :
    withTable.takes 1 0x22 (5 :: List.replicate 32 1) ∧ withTable.takes 1 0x23 [5]
      ∧ (([5] : Bytes).length < 2 ∧ 257 < (List.replicate 258 (0 : Byte)).length)
      ∧ 31 < u8 [32, 0] 0 ∧ (withTable.engine.segment 31 = none ∧ (31 : SegmentIndex).val = u8 [31, 0] 0)
      ∧ (withTable.engine.segment 5 = some (segmentOf 5 32) ∧ (5 : SegmentIndex).val = u8 [5] 0)
      ∧ ([] : Bytes).length ≠ 1 :=
  ⟨⟨rfl, rfl, by decide, rfl⟩, ⟨rfl, rfl, by decide, rfl⟩, by decide +kernel⟩

theorem test_meets_FitOfARecord :
    withTable.engine.table.Pairwise (fun a b => a.index < b.index)
      ∧ withTable.engine.table.getLast? = some (segmentOf 5 32)
      ∧ (∃ g ∈ withTable.engine.table, g.index = 2)
      ∧ (∀ g, withTable.engine.table.getLast? = some g → g.index ≠ 2)
      ∧ (∀ g ∈ withTable.engine.table, g.index ≠ 31) ∧ aWrite.placement = .closing
      ∧ { aWrite with placement := .any }.placement = .any
      ∧ { aWrite with placement := .afterSegment 31 }.placement = .afterSegment 31 := by
  refine ⟨by decide +kernel, by decide +kernel, by decide +kernel, ?_, by decide +kernel, rfl, rfl, rfl⟩
  intro g hg
  have : g = segmentOf 5 32 := by
    have h : withTable.engine.table.getLast? = some (segmentOf 5 32) := by decide +kernel
    exact Option.some.inj (hg.symm.trans h)
  rw [this]; decide

theorem test_meets_BulkCompletion (h : Obligations.BulkCompletion) :
    ((withList [aWrite]).completeAll (fun _ => true) .stopped).txns = [] :=
  (h (withList [aWrite]) _ (fun _ => true) .stopped rfl).2.1

theorem test_meets_StartRequest (h : Obligations.StartRequest) :
    exec (.start 1 [0]) State.reset = .next (State.reset.refused .start 1 [0] .badLength) :=
  h 1 [0] State.reset _ _ (takes_reset _ _ _) rfl rfl

/-- The run of `running` in TRIGGERED mode, at a moment past its round's end. -/
def lateTriggered : State :=
  (running.setEngine { running.engine with config := { RoundConfig.default with mode := .triggered } }).setNow 40000

theorem test_meets_StopRequest (h : Obligations.StopRequest) :
    running.takes 1 0x29 [] ∧ lateTriggered.takes 1 0x29 [] ∧ running.engine.state = .running
      ∧ lateTriggered.engine.state = .running ∧ lateTriggered.isQuiet = true
      ∧ (∃ t, exec (.stop 1 []) running = .next t) ∧ (∃ t, exec (.stop 1 []) lateTriggered = .next t)
      ∧ (∃ t, exec (.stop 1 []) settling = .next t ∧ settling.engine.state = .settling)
      ∧ (∃ t, exec (.stop 1 []) State.reset = .next t) := by
  refine ⟨⟨rfl, rfl, by decide, rfl⟩, ⟨rfl, rfl, by decide, rfl⟩, rfl, rfl, rfl, ?_, ?_, ?_, ?_⟩
  · exact ⟨_, ((h 1 [] running _ _ ⟨rfl, rfl, by decide, rfl⟩ rfl rfl).2.2.2.2 rfl rfl).1 32000
      (by decide +kernel) (by decide +kernel)⟩
  · exact ⟨_, ((h 1 [] lateTriggered _ _ ⟨rfl, rfl, by decide, rfl⟩ rfl rfl).2.2.2.2 rfl rfl).2 40000
      (by decide +kernel) (by decide +kernel) (by decide +kernel)⟩
  · exact ⟨_, (h 1 [] settling _ _ ⟨by decide +kernel, by decide +kernel, by decide +kernel, by decide +kernel⟩
      rfl rfl).2.2.1 rfl (by decide +kernel), by decide +kernel⟩
  · exact ⟨_, (h 1 [] State.reset _ _ (takes_reset _ _ _) rfl rfl).2.1 rfl (Or.inl rfl)⟩

theorem test_meets_EnableAndDisableStation :
    State.reset.takes 1 0x31 [7] ∧ State.reset.takes 1 0x32 [7] ∧ ([] : Bytes).length ≠ 1 ∧ 7 < u8 [8] 0
      ∧ u8 [7] 0 = (7 : StationId).val := ⟨takes_reset _ _ _, takes_reset _ _ _, by decide⟩

theorem test_meets_ReadStationReply :
    State.reset.takes 1 0x33 [7] ∧ ([] : Bytes).length ≠ 1 ∧ 7 < u8 [8] 0 ∧ u8 [7] 0 = (7 : StationId).val :=
  ⟨takes_reset _ _ _, by decide⟩

/-- The body of a SUBMIT: WRITE, station 3, channel 1, one byte, CLOSING, at once. -/
def submitBody : Bytes := [1, 0, 1, 3, 1, 1, 0, 0, 0, 0, 0, 0, 0, 1, 0x55]

theorem test_meets_SubmitBody (h : Obligations.SubmitBody) :
    (∃ v, decodeSubmit submitBody = .ok v)
      ∧ exec (.submit 1 (List.replicate 13 0)) State.reset
          = .next (State.reset.refused .submit 1 (List.replicate 13 0) .badLength)
      ∧ exec (.submit 1 (List.replicate 14 0)) State.reset
          = .next (State.reset.refused .submit 1 (List.replicate 14 0) .badValue) := by
  refine ⟨?_, ?_, ?_⟩
  · obtain ⟨v, hv, _⟩ := (h 1 submitBody State.reset _ (takes_reset _ _ _) Iff.rfl).2.2 (by decide) (by decide)
      (by decide)
    exact ⟨v, hv⟩
  · exact (h 1 _ State.reset _ (takes_reset _ _ _) Iff.rfl).1 (by decide)
  · exact (h 1 _ State.reset _ (takes_reset _ _ _) Iff.rfl).2.1 (by decide) (by decide) (by decide)

/-- What that body carries. -/
def submission : Submission :=
  { id := 1, kind := .write, target := .station 3, channel := 1, length := 1, placement := .closing, delay := 0,
    lifetime := none, retryBudget := 1, payload := [0x55] }

theorem test_meets_SubmitRequest :
    (withList []).takes 1 0x40 submitBody ∧ decodeSubmit submitBody = .ok submission ∧ submission.delay ≤ 65535 :=
  ⟨⟨rfl, rfl, by decide, rfl⟩, rfl, by decide⟩

theorem test_meets_CancelRequest :
    State.reset.takes 1 0x41 [1, 0] ∧ ([1] : Bytes).length ≠ 2 ∧ u16 [0, 0] 0 = 0 ∧ 0xF000 ≤ u16 [0, 0xF0] 0
      ∧ (1 ≤ u16 [1, 0] 0 ∧ u16 [0xFF, 0xEF] 0 ≤ 0xEFFF) ∧ State.reset.txns.find? (fun r => r.id == u16 [1, 0] 0) = none
      ∧ (withList [aWrite]).takes 1 0x41 [1, 0]
      ∧ (withList [aWrite]).txns.find? (fun r => r.id == u16 [1, 0] 0) = some aWrite ∧ aWrite.onLine = false
      ∧ (withList [{ aWrite with onLine := true }]).txns.find? (fun r => r.id == u16 [1, 0] 0)
          = some { aWrite with onLine := true } :=
  ⟨takes_reset _ _ _, by decide, by decide, by decide, by decide, rfl, ⟨rfl, rfl, by decide, rfl⟩, by decide +kernel,
    rfl, by decide +kernel⟩

theorem test_meets_ReadQueueReply : State.reset.takes 1 0x42 [48] := takes_reset _ _ _

theorem test_meets_InboundRequests :
    State.reset.takes 1 0x50 [16] ∧ State.reset.takes 1 0x51 [8] ∧ ([] : Bytes).length ≠ 1 ∧ u8 [0] 0 = 0 ∧ 8 < u8 [9] 0
      ∧ (([8] : Bytes).length = 1 ∧ 1 ≤ u8 [8] 0 ∧ u8 [8] 0 ≤ 8) := ⟨takes_reset _ _ _, takes_reset _ _ _, by decide⟩

theorem test_meets_ReadingReportsAndEvents :
    State.reset.takes 1 0x60 [16] ∧ State.reset.takes 1 0x68 [] ∧ ([] : Bytes).length ≠ 1 ∧ u8 [0] 0 = 0 ∧ 16 < u8 [17] 0
      ∧ (([16] : Bytes).length = 1 ∧ 1 ≤ u8 [16] 0 ∧ u8 [16] 0 ≤ 16) := ⟨takes_reset _ _ _, takes_reset _ _ _, by decide⟩

/-- Two reports in the queue. -/
def reported : State := State.reset.setReports { queue := [⟨40, anEvent⟩, ⟨41, aCompletion⟩], nextSeq := 42 }

theorem test_meets_AckReports :
    reported.takes 1 0x61 [41, 0] ∧ ([41] : Bytes).length ≠ 2
      ∧ (∀ r ∈ reported.reports.queue, r.seq.toNat ≠ u16 [42, 0] 0)
      ∧ reported.reports.queue = [⟨40, anEvent⟩] ++ ⟨41, aCompletion⟩ :: []
      ∧ (Report.mk 41 aCompletion).seq.toNat = u16 [41, 0] 0
      ∧ (∀ x ∈ [Report.mk 40 anEvent], x.seq ≠ (Report.mk 41 aCompletion).seq) :=
  ⟨⟨rfl, rfl, by decide, rfl⟩, by decide, by decide +kernel, rfl, by decide, by decide +kernel⟩

theorem test_meets_AckEvent :
    State.reset.takes 1 0x69 [47] ∧ ([] : Bytes).length ≠ 1 ∧ 47 < u8 [48] 0 ∧ ([47] : Bytes).length = 1
      ∧ u8 [47] 0 = (47 : SourceId).val := ⟨takes_reset _ _ _, by decide⟩

theorem test_meets_MaskEvents :
    State.reset.takes 1 0x6A [47, 1] ∧ ([47] : Bytes).length % 2 ≠ 0 ∧ 96 < (List.replicate 98 (0 : Byte)).length
      ∧ 47 < u8 [48, 1] (2 * 0) ∧ 1 < u8 [47, 2] (2 * 0 + 1) ∧ u8 [47, 1, 47, 0] (2 * 0) = u8 [47, 1, 47, 0] (2 * 1)
      ∧ ([((47 : SourceId), true)] ≠ []) ∧ ([((47 : SourceId), true)].map Prod.fst).Nodup
      ∧ ([47, 1] : Bytes)
          = [((47 : SourceId), true)].flatMap (fun p => le1 p.1.val ++ le1 (if p.2 = true then 1 else 0)) :=
  ⟨takes_reset _ _ _, by decide +kernel⟩

theorem test_meets_OccurrenceRule :
    ((State.reset.source 47).latched = false ∧ (State.reset.source 47).masked = false)
      ∧ (((State.reset.occur 47 .early).source 47).latched = true) := by decide +kernel

theorem test_meets_AttnFollowsTheQueue :
    reported.takes 1 0x61 [41, 0] ∧ ([41, 0] : Bytes).length = 2
      ∧ reported.reports.queue.getLast? = some ⟨41, aCompletion⟩ ∧ (41#16).toNat = u16 [41, 0] 0
      ∧ (∀ x ∈ reported.reports.queue.dropLast, x.seq ≠ 41) ∧ reported.takes 1 0x60 [16] :=
  ⟨⟨rfl, rfl, by decide, rfl⟩, by decide, by decide +kernel, by decide, by decide +kernel, ⟨rfl, rfl, by decide, rfl⟩⟩

theorem test_meets_RoundNumberComparison : 131069 ≤ 131069 ∧ 2 ^ 31 - 2 < 2 ^ 31 - 1 := by decide

/-! ### Rounds and the walk -/

/-- SETTLING or RUNNING in TRIGGERED mode, with a pending start and a deadline. -/
def triggered (st : EngineState) (settle pending deadline : Option Time) : State :=
  running.setEngine { running.engine with
    config := { RoundConfig.default with mode := .triggered }
    state := st, settleEnd := settle, pendingStart := pending, deadline := deadline }

theorem test_meets_RoundStartsAtItsMoment :
    (settling.held = false ∧ settling.isQuiet = true ∧ settling.comes 6400 ∧ settling.engine.state = .settling
        ∧ settling.engine.config.mode = .timed ∧ settling.engine.settleEnd = some 6400)
      ∧ (running.comes 32000 ∧ running.engine.prevStart = some 0 ∧ 32000 = 0 + micros running.engine.config.period)
      ∧ ((triggered .running none (some 100) (some 200)).comes 100
        ∧ (triggered .running none (some 100) (some 200)).engine.pendingStart = some 100)
      ∧ ((triggered .settling none none (some 200)).comes 200
        ∧ (triggered .settling none none (some 200)).engine.deadline = some 200)
      ∧ ((triggered .settling (some 50) none none).comes 50
        ∧ (triggered .settling (some 50) none none).isQuiet = true) := by
  unfold State.comes; decide +kernel

theorem test_meets_RoundStartEffects (h : Obligations.RoundStartEffects) :
    (settling.startRound false).now = settling.now
      ∧ ((triggered .running none none (some 0)).startRound true).now = 0 :=
  ⟨(h settling _ _ _ _ false _ _ _ _ rfl rfl rfl rfl rfl rfl rfl (fun _ => rfl)).2.2.2.2.2.2.1,
   (h (triggered .running none none (some 0)) _ _ _ _ true _ _ _ _ rfl rfl rfl rfl rfl rfl rfl
     (fun _ => rfl)).2.2.2.2.2.2.1⟩

/-- A round started by its deadline at 100 microseconds, with trigger_delay equal to min_period: an edge less than a tick
later is judged at the next tick and accepted. -/
theorem test_edge_after_a_deadline_start_is_accepted :
    (let s := triggered .running (some 3200) none none
     (after .trigEdge ((s.setEngine { s.engine with config :=
       { s.engine.config with triggerDelay := 1000 } }).setNow 3205)).engine.pendingStart) = some (101 * 32 + 1000 * 32) := by
  decide +kernel

theorem test_meets_TriggerEdges :
    running.held = false ∧ running.engine.config.mode = .timed
      ∧ (triggered .running none none none).engine.config.mode = .triggered
      ∧ (triggered .running none none none).engine.prevStart = some 0
      ∧ (triggered .stopped none none none).engine.state = .stopped
      ∧ (triggered .settling (some 5) none none).engine.settleEnd.isSome = true
      ∧ (triggered .settling none none none).engine.settleEnd = none
      ∧ (triggered .settling none none none).engine.pendingStart = none
      ∧ (triggered .settling none (some 5) none).engine.pendingStart ≠ none := by decide +kernel

theorem test_meets_LayoutOfARound (h : Obligations.LayoutOfARound) :
    ∀ d k, .segment d k ∈ agenda .default .default [segmentOf 0 16] 0 ↔
      ∃ j g, ([segmentOf 0 16] : List Segment)[j]? = some g ∧ k = g.index
        ∧ d = 0 + LineConfig.default.bits (if j = 0 then 80 else 340) := by
  refine (h .default .default [segmentOf 0 16] 0 (fun j => if j = 0 then 80 else 340) rfl ?_).1
  intro j g hg
  match j with
  | 0 => cases hg; rfl
  | j + 1 => simp at hg

/-- A run whose layout goes on with this item. -/
def inRound (table : List Segment) (st : EngineState) (x : RoundItem) : State :=
  running.setEngine { running.engine with state := st, table := table, agenda := [x] }

theorem test_meets_SegmentFramesAndGaps :
    ((inRound exampleTable .stopping (.segment 640 0)).held = false
        ∧ (inRound exampleTable .stopping (.segment 640 0)).isQuiet = true
        ∧ (inRound exampleTable .stopping (.segment 640 0)).engine.segment 0 = some (segmentOf 0 16)
        ∧ (inRound exampleTable .stopping (.segment 640 0)).comes 640)
      ∧ (inRound exampleTable .running (.segment 640 0)).comes 640
      ∧ (inRound [] .running (.gap 480 .closing 32000)).comes 480
      ∧ (inRound [] .running (.gap 480 .closing 32000)).engine.agenda = .gap 480 .closing 32000 :: []
      ∧ (inRound [] .stopping (.gap 480 .closing 32000)).engine.state ≠ .running
      ∧ (running.setSched { openGap := some ⟨.closing, 32000⟩, pollsHeld := false }).comes 32000 := by
  unfold State.comes; decide +kernel

/-- The run with its closing gap open and this list. -/
def inGap (l : List Record) : State := (withList l).setSched { openGap := some ⟨.closing, 32000⟩, pollsHeld := false }

/-- A POLL of station 3. -/
def aPoll : Record := internalRecord .poll 3 5

/-- The first of these records, the given ones before them, that is called for. -/
def firstHeld (eligible : List Record → Record → Bool) (room : Record → Bool) (older : List Record) :
    List Record → Option Record
  | [] => none
  | x :: rest => if eligible older x = true ∧ room x = false then some x else firstHeld eligible room (older ++ [x]) rest

theorem firstHeld_eq_none {el : List Record → Record → Bool} {room : Record → Bool} (l older : List Record)
    (h : ∀ mid x rest, l = mid ++ x :: rest → el (older ++ mid) x = true → room x = true) :
    firstHeld el room older l = none := by
  induction l generalizing older with
  | nil => rfl
  | cons y ys ih =>
    have hy : ¬ (el older y = true ∧ room y = false) := fun hy => by
      have := h [] y ys rfl (by simpa using hy.1)
      simp [hy.2] at this
    rw [firstHeld, if_neg hy]
    exact ih (older ++ [y]) fun mid x rest e he => h (y :: mid) x rest (by rw [e]; rfl) (by simpa using he)

theorem firstHeld_eq_some {el : List Record → Record → Bool} {room : Record → Bool} (mid : List Record) (x : Record)
    (rest older : List Record) (hx : el (older ++ mid) x = true) (hr : room x = false)
    (h : ∀ m y r, mid = m ++ y :: r → el (older ++ m) y = true → room y = true) :
    firstHeld el room older (mid ++ x :: rest) = some x := by
  induction mid generalizing older with
  | nil => rw [List.nil_append, firstHeld, if_pos ⟨by simpa using hx, hr⟩]
  | cons y ys ih =>
    have hy : ¬ (el older y = true ∧ room y = false) := fun hy => by
      have := h [] y ys rfl (by simpa using hy.1)
      simp [hy.2] at this
    rw [List.cons_append, firstHeld, if_neg hy]
    exact ih (older ++ [y]) (by simpa using hx) fun m z r e he => h (y :: m) z r (by rw [e]; rfl) (by simpa using he)

theorem test_meets_WalkStartsTheFirstThatFits (h : Obligations.WalkStartsTheFirstThatFits) :
    (inGap [aWrite]).walk = (inGap [aWrite]).startAttempt aWrite := by
  classical
  let s := inGap [aWrite]
  let eligible : List Record → Record → Prop := fun older r => r.onLine = false ∧ r.anchor ≠ none ∧ r.due = true
      ∧ placementMatches s.engine.table r.placement .closing = true
      ∧ (r.isHost = true → ∀ i, r.target = .station i → (s.station i).state = .online ∨ (s.station i).state = .suspect)
      ∧ ¬ (r.isHost = true ∧ ∃ x ∈ older, x.isHost = true ∧ x.target = r.target ∧ x.channel = r.channel)
  let room : Record → Prop := fun r => r.kind = .poll → s.inbound.messages.length < 16
      ∧ s.limitOf r.target ≤ 2048 - (s.inbound.messages.map fun m => m.payload.length).sum
  let fits : Record → Prop := fun r => s.now + s.bits (s.reservation r + 20) ≤ 32000
      ∧ (r.kind = .send → s.now + s.bits (s.reservation r + s.line.config.turnGuard + 20) ≤ 32000)
  let held : List Record → State := fun before =>
    match firstHeld (fun o r => decide (eligible o r)) (fun r => decide (room r)) [] before with
    | none => s
    | some x => match x.target with
      | .station i => (s.setSched { s.sched with pollsHeld := true }).occur srcPollsHeld (.station i)
      | .broadcast => s
  have e0 : eligible [] aWrite := by
    refine ⟨rfl, by simp [aWrite, record], rfl, rfl, fun _ i hi => ?_, by simp⟩
    cases hi
    exact Or.inl (by decide +kernel)
  have r0 : room aWrite := fun hk => by cases hk
  have f0 : fits aWrite := ⟨by decide +kernel, fun hk => by cases hk⟩
  have hn : held [] = s := rfl
  have key := (h s ⟨.closing, 32000⟩ eligible room fits held (fun _ _ => Iff.rfl) (fun _ => Iff.rfl) (fun _ => Iff.rfl)
    (fun before => ⟨fun hc => ?_, fun older x after i _ e he hr ht hmin => ?_⟩) ?_ rfl).2
    rfl (by decide) (by decide +kernel)
  · have := key.1 [] aWrite [] rfl e0 r0 f0 (fun older x rest e => by simp at e)
    rw [hn] at this
    exact this
  · have : firstHeld (fun o r => decide (eligible o r)) (fun r => decide (room r)) [] before = none := by
      refine firstHeld_eq_none _ _ fun mid x rest e he => ?_
      rcases hc with hc | hc
      · cases hc
      · simpa using hc mid x rest e (by simpa using he)
    show (match firstHeld _ _ [] before with | none => s | some x => _) = s
    rw [this]
  · have : firstHeld (fun o r => decide (eligible o r)) (fun r => decide (room r)) [] before = some x := by
      rw [e]
      exact firstHeld_eq_some _ _ _ _ (by simpa using he) (by simpa using hr) fun m y r em hm => by
        simpa using hmin m y r em (by simpa using hm)
    show (match firstHeld _ _ [] before with | none => s | some x => _) = _
    rw [this]
    simp only [ht]
  · intro r hr hk
    have : r = aWrite := List.mem_singleton.mp hr
    rw [this] at hk
    cases hk

theorem test_meets_AttemptStart (h : Obligations.AttemptStart) :
    ((withList [aWrite]).startAttempt aWrite).sched.pollsHeld = false := by
  rw [h (withList [aWrite]) aWrite _ _ _ rfl rfl rfl]; rfl

/-- The last round of a run, to end at 32000. -/
def stopping : State := running.setEngine { running.engine with state := .stopping, roundEnd := some 32000 }

theorem test_meets_RoundEndAndLineFault :
    (stopping.held = false ∧ stopping.comes 32000 ∧ stopping.isQuiet = true ∧ stopping.engine.roundEnd = some 32000)
      ∧ (running.comes (0 + running.bits 256) ∧ running.comes (0 + running.bits 255)
        ∧ running.line.activity = .quiet ⟨0, 0⟩ ∧ running.engine.state = .running
        ∧ (running.now - 0) / running.bits 1 = 0 ∧ running.line.config.stuckTime = 256)
      ∧ (∃ lows : Nat → Nat, lows 0 = 0
        ∧ (∀ j high, (List.replicate 256 false)[j]? = some high → lows (j + 1) = if high = true then 0 else lows j + 1)
        ∧ (∀ i, 1 ≤ i → i < 256 → lows i < 256) ∧ 256 ≤ lows 256)
      ∧ State.reset.engine.state = .stopped := by
  refine ⟨by unfold State.comes; decide +kernel, by unfold State.comes; decide +kernel, ⟨id, rfl, fun j high hj => ?_,
    fun i _ h => h, Nat.le_refl _⟩, rfl⟩
  rw [List.getElem?_replicate] at hj
  split at hj
  · cases hj; rfl
  · cases hj

/-- The stuck-line count: a high sample resets it, 256 low ones in a row halt the engine at the end of the last, and bit
times that no level is given for count as high. -/
theorem test_high_sample_resets_the_stuck_count :
    (after (.lineFault [false, false, true, false]) running).line.activity = .quiet ⟨32, 1⟩ := by decide +kernel
theorem test_256_low_bit_times_halt :
    (let t := after (.lineFault (List.replicate 300 false)) (after (.lineFault [true]) running)
     (t.engine.state, t.line.activity, t.now)) = (.halted, .off, 257 * 8) := by decide +kernel
theorem test_time_without_levels_resets_the_stuck_count :
    (after (.lineFault [false]) ((after (.lineFault [false, false]) running).setNow 29)).line.activity
      = .quiet ⟨32, 1⟩ := by decide +kernel

/-! ### The line and the turn -/

/-- A SYNC frame of 60 bit times, and a SEND record. -/
def syncFrame : SendFrame :=
  { kind := .sync, header := syncHeader 5, payload := [], startAt := 0, endAt := 480, contended := false }
def aSend : Record := record .send 2

theorem test_meets_FrameSent :
    ((running.setActivity (.sending syncFrame)).held = false ∧ (running.setActivity (.sending syncFrame)).comes 480
        ∧ (running.setActivity (.sending syncFrame)).attempt = none)
      ∧ ((onLineIn aWrite .sending (.sending writeFrame)).comes writeFrame.endAt ∧ writeFrame.kind = .write)
      ∧ ((onLineIn aSend .sending (.sending ((withList [aSend]).txnFrame aSend))).comes
          ((withList [aSend]).txnFrame aSend).endAt ∧ ((withList [aSend]).txnFrame aSend).kind = .send) := by
  unfold State.comes; decide +kernel

theorem test_meets_Contention :
    (syncFrame.contended = false ∧ syncFrame.drivenAt 0 = some (!true)
        ∧ (running.setActivity (.sending syncFrame)).now ≤ 0 + running.bits 0 + running.halfBit
        ∧ (running.setActivity (.sending syncFrame)).comes (0 + running.bits 0 + running.halfBit)
        ∧ 0 + running.bits 0 + running.halfBit < syncFrame.endAt
        ∧ running.line.config.contentionPolicy = .yield ∧ running.line.config.inRange = true)
      ∧ (writeFrame.kind ≠ .sync ∧ writeFrame.kind ≠ .segment ∧ writeFrame.contended = false
        ∧ writeFrame.drivenAt 19 = some (!false)
        ∧ (onLineIn aWrite .sending (.sending writeFrame)).comes (0 + running.bits 19 + running.halfBit)
        ∧ 0 + running.bits 19 + running.halfBit < writeFrame.endAt)
      ∧ (writeFrame.drivenAt 20 = some false ∧ writeFrame.drivenAt 180 = none)
      ∧ (running.setLine { running.line with config :=
          { LineConfig.default with contentionPolicy := .persist } }).line.config.contentionPolicy = .persist
      ∧ { syncFrame with contended := true }.contended = true ∧ running.line.activity.state ≠ .sending := by
  unfold State.comes; decide +kernel

/-- A level low in the leading idle aborts a WRITE in the middle of that bit time; a level that agrees does nothing. -/
theorem test_contention_in_the_leading_idle :
    (after (.contention 3 false) (onLineIn aWrite .sending (.sending writeFrame))).line.activity
      = .reclaim (3 * 8 + 4 + 32 * 8) := by decide +kernel
theorem test_driven_level_is_no_contention :
    exec (.contention 20 false) (onLineIn aWrite .sending (.sending writeFrame))
      = .next (onLineIn aWrite .sending (.sending writeFrame)) := rfl

theorem test_meets_TheOfferedLine :
    ((onLineIn aWrite .guard (.offered 1696)).held = false ∧ (attemptOf aWrite .guard).phase = .guard
        ∧ (onLineIn aWrite .guard (.offered 1696)).comes 1696)
      ∧ (attemptOf aWrite (.waiting 3296)).phase ≠ .guard
      ∧ (onLineIn aWrite (.waiting 3296) (.offered 1696)).comes 3296
      ∧ ((onLineIn aWrite .reclaiming (.reclaim 1696)).line.activity.state ≠ .offered
        ∧ (onLineIn aWrite .reclaiming (.reclaim 1696)).line.activity.state ≠ .listening)
      ∧ (onLineIn aWrite (.trailer 3200) (.listening (.noFrame 2080))).line.activity = .listening (.noFrame 2080)
      ∧ (onLineIn aWrite (.trailer 3200) (.listening (.inFrame 2080))).line.activity = .listening (.inFrame 2080) := by
  unfold State.comes; decide +kernel

/-- The ACK of section 11.5 as decoded, and with an invalid kind. -/
def ackFrame : DecodedFrame := decodeStationFrame true [0x0C, 0x6F, 0x05, 0x00] .turn

theorem test_meets_FrameIsJudgedByTheSevenChecks (h : Obligations.FrameIsJudgedByTheSevenChecks) :
    (judgeFrame .strict (attemptOf aWrite (.receiving 0)) TxnKind.write.allows ackFrame).1 = none := by
  have hh : ackFrame.header = ackHeader := by decide +kernel
  have := ((h .strict (attemptOf aWrite (.receiving 0)) TxnKind.write.allows ackFrame _ _ true true rfl).2
    (by decide +kernel)).2 .ack (by rw [hh]; rfl) rfl
    (iff_of_true rfl ⟨rfl, by rw [hh]; rfl, by decide +kernel, by decide +kernel, by decide +kernel, by decide +kernel⟩)
    (iff_of_true rfl (Or.inl ⟨by rw [hh]; rfl, by rw [hh]; rfl, by decide +kernel⟩))
  rw [this]
  decide

/-- The byte times of that ACK. -/
def ackTimes : List ByteTime := [0x0C, 0x6F, 0x05, 0x00].map dataByteTime ++ [turnPattern]

/-- A turn in which the station's frame began at 2080, in a phase. -/
def receiving (p : Phase) : State := onLineIn aWrite p (.listening (.inFrame 2080))

theorem test_meets_FramesOfTheTurn :
    (collectBytes ackTimes = ([0x0C, 0x6F, 0x05, 0x00], .turn)
        ∧ (receiving (.receiving 3200)).line.activity = .listening (.inFrame 2080)
        ∧ (receiving (.receiving 3200)).comes (2080 + (receiving (.receiving 3200)).bits (10 * (4 + 2))))
      ∧ (receiving (.trailer 3200)).comes (2080 + (receiving (.trailer 3200)).bits (10 * (4 + 2)))
      ∧ (receiving (.ignoring 3200)).comes (2080 + (receiving (.ignoring 3200)).bits (10 * (4 + 2)))
      ∧ ((receiving (.receiving 3200)).comes 3200 ∧ (receiving (.trailer 3200)).comes 3200
        ∧ (receiving (.ignoring 3200)).comes 3200)
      ∧ judgeFrame .strict (attemptOf aWrite (.receiving 3200)) TxnKind.write.allows ackFrame = (none, .clear)
      ∧ judgeFrame .strict (attemptOf aWrite (.trailer 3200)) (fun k => k == .errorReport) ackFrame
          = (some .replyCorrupt, .clear)
      ∧ (onLineIn aWrite (.trailer 3200) (.listening (.noFrame 2080))).line.activity = .listening (.noFrame 2080) := by
  unfold State.comes; decide +kernel

/-- Section 5's second attempt: an ACK with mark 1 closed END, whose trailer begins 12 bit times after it and is delivered
at its end; one that begins 32 bit times after it is cut off by the talk limit. -/
def notedHeader : Header :=
  { kind := 0x11, seq := true, turn := false, mark := true, station := 3, channel := 1, length := 0 }
def reportHeader : Header :=
  { kind := 0x1E, seq := true, turn := true, mark := false, station := 3, channel := 0, length := 4 }
def notedAck : Instr := .decodedFrame ((headerBytes notedHeader.codeWord).map dataByteTime ++ [endPattern])
def trailer : Instr := .decodedFrame ((headerBytes reportHeader.codeWord).map dataByteTime ++ [turnPattern])
def offeredAt450 : State := (onLineIn aWrite (.waiting (644 * 8)) (.offered (444 * 8))).setNow (450 * 8)
def noted : State := after notedAck (after .stationStart offeredAt450)
theorem test_a_noted_ack_leaves_the_line_listening :
    (noted.line.activity, noted.now, noted.attempt.map Attempt.phase)
      = (.listening (.noFrame (510 * 8)), 510 * 8, some (.trailer (590 * 8))) := by decide +kernel
theorem test_the_trailer_is_delivered_at_582 :
    (let t := after trailer (after .stationStart (noted.setNow (522 * 8)))
     (t.now, t.line.activity, t.attempt.map Attempt.provisional, t.attempt.map Attempt.word))
      = (582 * 8, .reclaim (614 * 8), some (some .doneNoted), some (some 4)) := by decide +kernel
theorem test_a_trailer_at_542_is_cut_off_at_590 :
    (let s := after .stationStart (noted.setNow (542 * 8))
     let t := after .talkLimitExpiry (after trailer s)
     (decide (after trailer s = s), t.now, t.attempt.map Attempt.provisional, t.attempt.map Attempt.flags))
      = (true, 590 * 8, some (some .done), some { TxnFlags.clear with noReturn := true, trailerBad := true }) := by
  decide +kernel
theorem test_no_frame_ends_without_a_start : after trailer noted = noted := by decide +kernel
theorem test_a_short_low_is_no_start : after (.stationStart 9) offeredAt450 = offeredAt450 := by decide +kernel

/-- A POLL's attempt that brought a MESSAGE of one byte. -/
def messageFrame : DecodedFrame :=
  { headerClass := .clean
    header := { kind := 0x14, seq := true, turn := true, mark := false, station := 3, channel := 1, length := 1 }
    byteCount := 7, overrun := false, payload := [0x55], crc := .agrees, closing := .turn }
def polled : Attempt :=
  { attemptOf aPoll .reclaiming with first := some ⟨messageFrame, none⟩, provisional := some .done }

theorem test_meets_EndOfAnAttempt :
    (onLineIn aWrite .reclaiming (.reclaim 2816)).comes 2816
      ∧ (onLineIn aWrite .reclaiming (.reclaim 2816)).held = false
      ∧ (attemptOf aWrite .reclaiming).target = .station 3
      ∧ (withList [{ aWrite with onLine := true }]).inFlight = some { aWrite with onLine := true }
      ∧ polled.target = .station 3
      ∧ (withList [{ aPoll with onLine := true }]).inFlight = some { aPoll with onLine := true }
      ∧ polled.kind = .poll ∧ polled.first = some ⟨messageFrame, none⟩ ∧ messageFrame.header.kind = 0x14
      ∧ (1 : Channel).val = messageFrame.header.channel.toNat
      ∧ { attemptOf aSend .sending with target := .broadcast }.target = .broadcast := by
  unfold State.comes; decide +kernel

/-- The statement's variables but for these three are given by its equations, whatever the state. -/
theorem test_meets_EndOfAnAttempt_in_every_state (h : Obligations.EndOfAnAttempt) (s : State) (a : Attempt)
    (o : TxnOutcome) (i : StationId) (r : Record) (ht : a.target = .station i) (hr : s.inFlight = some r)
    (hm : a.kind ≠ .poll) : ∃ t : State, s.endAttempt a o = t.walk := by
  classical
  let r' : Record := { r with
    onLine := false, attempts := r.attempts + 1,
    last := some { outcome := o, flags := a.flags, word := a.word, data :=
      if a.kind = .read ∧ (o = .done ∨ o = .doneNoted) then (match a.first with | some j => j.frame.payload | none => [])
      else [] } }
  let p := (s.station i).applyResult a.kind o (if a.kind = .probe ∧ (o = .done ∨ o = .doneNoted) then
    decodeIdentity (match a.first with | some j => j.frame.payload | none => []) else none) a.word s.engine.counter
  let u : State := (s.setAttempt none).setStation i p.1
  exact ⟨_, h.2.1 s u u _ _ _ a o i r r' p.1 p.2 _ _ (decide _) _ _ ht hr rfl rfl rfl rfl
    (fun j hk => absurd hk hm) (fun _ => rfl) rfl rfl rfl decide_eq_true_iff rfl rfl rfl⟩

theorem test_meets_EndOfAnAttempt_to_broadcast (h : Obligations.EndOfAnAttempt) (s : State) (a : Attempt)
    (o : TxnOutcome) (r : Record) (ht : a.target = .broadcast) (hr : s.inFlight = some r) :
    ∃ t : State, s.endAttempt a o = t.walk := by
  classical
  exact ⟨_, h.2.2 s _ _ a o r _ _ (decide _) _ ht hr rfl rfl rfl decide_eq_true_iff rfl rfl⟩

theorem test_meets_StationResults (h : Obligations.StationResults) :
    (online.applyResult .write .done none none 5).2 = .unchanged
      ∧ ({ online with state := .suspect, failures := 7 }.applyResult .write .noResponse none none 5).2 = .lost
      ∧ (Station.reset.applyResult .probe .noResponse none none 5).2 = .unchanged
      ∧ ({ online with state := .offline }.applyResult .probe .done online.identity none 5).2 = .joined
      ∧ ({ online with state := .resync, failures := 7 }.applyResult .probe .noResponse none none 5).2 = .lost := by
  refine ⟨?_, ?_, ?_, ?_, ?_⟩
  · rw [(h online .write .done none none 5 _ _ _ _ rfl rfl rfl (by decide) rfl).2.2.2.1 rfl (by decide)]; rfl
  · rw [(h { online with state := .suspect, failures := 7 } .write .noResponse none none 5 _ _ _ _ rfl rfl rfl
      (by decide) rfl).2.2.2.2.1 rfl (by decide)]; rfl
  · rw [(h Station.reset .probe .noResponse none none 5 _ _ _ _ rfl rfl rfl (by decide) rfl).1 rfl]
  · rw [(h { online with state := .offline } .probe .done online.identity none 5 _ _ _ _ rfl rfl rfl
      (fun _ => ⟨rfl, Or.inl rfl⟩) rfl).2.2.1 rfl rfl]; rfl
  · rw [(h { online with state := .resync, failures := 7 } .probe .noResponse none none 5 _ _ _ _ rfl rfl rfl
      (by decide) rfl).2.2.2.2.2 rfl rfl]; rfl

/-! ### Encoding and invariants -/

theorem test_meets_EncodedFramesDecodeBack :
    (31 < 32 ∧ 0 < 32 ∧ 31 ≠ 0) ∧ ackHeader.isLong = false ∧ messageFrame.header.isLong = true
      ∧ (1 ≤ (List.replicate 256 (0 : Byte)).length ∧ (List.replicate 256 (0 : Byte)).length ≤ 256) := by
  decide +kernel

theorem test_meets_StepsKeepPortSettingsAndTable :
    settling.portSafe ∧ settling.configSafe ∧ tableSafe withTable.engine.table
      ∧ step settling = .next (settling.setNow 1) := by
  refine ⟨?_, ?_, ⟨by decide +kernel, ?_, by decide +kernel⟩, ?_⟩
  · unfold State.portSafe; decide +kernel
  · unfold State.configSafe; decide +kernel
  · unfold Segment.safe; decide +kernel
  · have hp : settling.pending = [] := by decide +kernel
    have hd : settling.dueNow = none := by decide +kernel
    have hn : settling.now = 0 := by decide +kernel
    rw [step, hp]
    show settling.idle = _
    rw [State.idle, hd, hn]

theorem test_meets_StepsKeepEventsAndReports :
    (running.occur 41 (.engine .running)).eventsSafe ∧ (running.occur 41 (.engine .running)).admission ≤ 40 := by
  refine ⟨⟨?_, by decide +kernel, by decide +kernel, ?_⟩, by decide +kernel⟩
  · unfold Source.safe; decide +kernel
  · exact ⟨by decide +kernel, trivial⟩

theorem test_meets_StepsKeepStations : (withList []).stationsSafe := by
  intro i
  have h : (withList []).station i = if i = 3 then online else Station.reset := by revert i; decide +kernel
  rw [h]
  split
  · exact ⟨by unfold Station.failuresBounded; exact (by decide : 0 < 3), by decide⟩
  · exact ⟨rfl, by decide⟩

theorem test_meets_StepsKeepLineEngineAndTurn : (onLineIn aWrite .guard (.offered 1696)).lineSafe :=
  ⟨by decide +kernel, by decide +kernel, by decide +kernel, trivial⟩

theorem test_meets_StepsKeepTheTransactionList :
    (onLineIn aWrite .guard (.offered 1696)).listSafe ∧ (onLineIn aWrite .guard (.offered 1696)).waitingSafe := by
  have hl : (onLineIn aWrite .guard (.offered 1696)).txns = [{ aWrite with onLine := true }] := by decide +kernel
  refine ⟨⟨by decide +kernel, ?_, by decide +kernel, by decide +kernel, ?_⟩, ?_⟩
  · rw [hl]
    intro r hr
    rw [List.mem_singleton.mp hr]
    exact ⟨by decide, by decide, by decide, by decide, by decide, by decide⟩
  · refine ⟨{ aWrite with onLine := true }, by rw [hl]; exact List.mem_singleton.mpr rfl, rfl,
      ⟨rfl, rfl, rfl, rfl, rfl⟩, ?_⟩
    rw [hl]
    intro x hx _
    rw [List.mem_singleton.mp hx]
  · intro r hr
    rw [hl] at hr
    rw [List.mem_singleton.mp hr]
    exact fun h => absurd h (by decide)

theorem test_meets_StepsKeepTheInboundQueue :
    ((onLineIn aPoll .guard (.offered 1696)).setInbound { threshold := 1, messages :=
      [{ station := 3, channel := 1, payload := [7], arrival := 5, headerCorrected := false,
         headerSuspect := false }] }).inboundSafe := by
  refine ⟨by decide +kernel, by decide +kernel, by decide +kernel, ?_⟩
  intro a ha _
  have : a = attemptOf aPoll .guard := (Option.some.inj ha).symm
  rw [this]
  exact ⟨by decide +kernel, fun j hj => by cases hj⟩

end Sys2Proof.Tests
end

section
namespace Sys2Proof.Machine

/-! ## The line, the engine and the turn in step (O58) -/

/-! ### The invariant over the four parts of the state it reads -/

/-- The attempt, or its absence, goes with the line state (R92). -/
def attemptMatches (act : LineActivity) : Option Attempt → Prop
  | some a => phaseMatches a.kind a.phase act
  | none => idleMatches act

/-- `State.lineSafe` over the line state, the engine state, the open gap and the attempt alone. -/
def inStep (act : LineActivity) (st : EngineState) (gap : Option OpenGap) (att : Option Attempt) : Prop :=
  (act = .off ↔ st.atRest = true)
  ∧ (st = .settling → act.state = .quiet)
  ∧ (gap.isSome = true → st = .running)
  ∧ attemptMatches act att

theorem State.lineSafe_iff (s : State) :
    s.lineSafe ↔ inStep s.line.activity s.engine.state s.sched.openGap s.attempt := by
  unfold State.lineSafe inStep State.isQuiet
  simp only [beq_iff_eq]
  cases s.attempt <;> exact Iff.rfl

/-- An operation that leaves the four parts leaves the invariant. -/
theorem State.lineSafe_of_eq {s t : State} (h : s.lineSafe) (hl : t.line.activity = s.line.activity)
    (he : t.engine.state = s.engine.state) (hg : t.sched.openGap = s.sched.openGap)
    (ha : t.attempt = s.attempt) : t.lineSafe := by
  rw [State.lineSafe_iff, hl, he, hg, ha, ← State.lineSafe_iff]
  exact h

theorem State.isQuiet_iff {s : State} : s.isQuiet = true ↔ ∃ m, s.line.activity = .quiet m := by
  unfold State.isQuiet
  cases s.line.activity <;> simp [LineActivity.state]

/-- The line carries a frame, a turn or a RECLAIM. -/
def LineActivity.busy : LineActivity → Bool
  | .sending _ | .offered _ | .listening _ | .reclaim _ => true
  | .off | .quiet _ => false

/-- Every phase of an attempt goes with a busy line only (R92). -/
theorem busy_of_phaseMatches {k : TxnKind} {p : Phase} {act : LineActivity} (h : phaseMatches k p act) :
    act.busy = true := by
  cases p <;> cases act <;> simp [phaseMatches, LineActivity.busy] at h ⊢

/-- The phase of the attempt goes with the line state. -/
theorem State.lineSafe.matches {s : State} (h : s.lineSafe) {a : Attempt} (ha : s.attempt = some a) :
    phaseMatches a.kind a.phase s.line.activity := by
  obtain ⟨-, -, -, hm⟩ := s.lineSafe_iff.mp h
  rwa [ha] at hm

/-- An attempt on the line keeps it busy. -/
theorem State.lineSafe.attempt_none {s : State} (h : s.lineSafe) (hb : s.line.activity.busy = false) :
    s.attempt = none := by
  cases ha : s.attempt with
  | none => rfl
  | some a => simp [busy_of_phaseMatches (h.matches ha)] at hb

theorem State.lineSafe.attempt_of_quiet {s : State} (h : s.lineSafe) (hq : s.isQuiet = true) : s.attempt = none := by
  obtain ⟨m, hm⟩ := State.isQuiet_iff.mp hq
  exact h.attempt_none (by rw [hm]; rfl)

/-- With the engine at rest the line is OFF, without an attempt and without an open gap. -/
theorem State.lineSafe.at_rest {s : State} (h : s.lineSafe) (hr : s.engine.state.atRest = true) :
    s.line.activity = .off ∧ s.sched.openGap = none ∧ s.attempt = none := by
  obtain ⟨hoff, -, hgap, -⟩ := s.lineSafe_iff.mp h
  have hact := hoff.mpr hr
  refine ⟨hact, ?_, h.attempt_none (by rw [hact]; rfl)⟩
  cases hg : s.sched.openGap with
  | none => rfl
  | some g => simp [hgap (by simp [hg]), EngineState.atRest] at hr

/-- A busy line means a round in RUNNING or STOPPING, in which the line may go to any state but OFF that suits the
attempt. -/
theorem State.lineSafe.move {s t : State} (h : s.lineSafe) (hb : s.line.activity.busy = true)
    (he : t.engine = s.engine) (hg : t.sched = s.sched) (hact : t.line.activity ≠ .off)
    (ha : attemptMatches t.line.activity t.attempt) : t.lineSafe := by
  obtain ⟨hoff, hset, hgap, -⟩ := s.lineSafe_iff.mp h
  rw [State.lineSafe_iff, he, hg]
  refine ⟨⟨fun e => absurd e hact, fun hr => ?_⟩, fun hs => ?_, hgap, ha⟩
  · rw [hoff.mpr hr] at hb; cases hb
  · have hq := hset hs
    cases hx : s.line.activity <;> simp [hx, LineActivity.busy, LineActivity.state] at hb hq

/-- A round in RUNNING may have any line state but OFF that suits the attempt. -/
theorem inStep_running {act : LineActivity} {gap : Option OpenGap} {att : Option Attempt} (hoff : act ≠ .off)
    (ha : attemptMatches act att) : inStep act .running gap att :=
  ⟨⟨fun e => absurd e hoff, fun e => by simp [EngineState.atRest] at e⟩, nofun, fun _ => rfl, ha⟩

/-- At rest: OFF, no gap, no attempt. -/
theorem inStep_atRest {st : EngineState} (hr : st.atRest = true) : inStep .off st none none :=
  ⟨by simp [hr], by rintro rfl; simp [EngineState.atRest] at hr, by simp, trivial⟩

/-! ### The walk and the ends of a run -/

theorem State.holdPoll_openGap (s : State) (r : Record) : (s.holdPoll r).sched.openGap = s.sched.openGap := by
  obtain h | ⟨i, -, -, h⟩ := s.holdPoll_cases r
  · rw [h]
  · rw [h]; simp

/-- A walk keeps the invariant: what it starts, it starts in RUNNING. -/
theorem State.lineSafe.walk {s : State} (h : s.lineSafe) : s.walk.lineSafe := by
  have hold : ∀ (u : State) (r : Record), u.lineSafe ∧ u.engine.state = s.engine.state →
      (u.holdPoll r).lineSafe ∧ (u.holdPoll r).engine.state = s.engine.state := fun u r ⟨hu, he⟩ =>
    ⟨State.lineSafe_of_eq hu (by simp) (by simp) (u.holdPoll_openGap r) (by simp), by simpa using he⟩
  obtain ⟨u, ⟨hu, he⟩, e | ⟨g, -, hrun, -, -, r, -, -, -, -, -, e⟩⟩ := State.walk_cases hold ⟨h, rfl⟩
  · exact e ▸ hu
  · rw [e, State.lineSafe_iff, State.startAttempt_activity, State.startAttempt_attempt, State.startAttempt_engine, he,
      hrun]
    exact inStep_running (by simp) rfl

/-- The end of an attempt on a QUIET line. -/
theorem State.endAttempt_lineSafe {s : State} (a : Attempt) (o : TxnOutcome) (h : (s.setAttempt none).lineSafe) :
    (s.endAttempt a o).lineSafe := by
  unfold State.endAttempt
  refine State.lineSafe.walk ?_
  split
  · exact State.lineSafe_of_eq h (by simp) (by simp) (by simp) (by simp)
  · exact State.lineSafe_of_eq h (by simp) (by simp) (by simp) (by simp)

theorem State.enterStopped_lineSafe {s : State} (ha : s.attempt = none) : s.enterStopped.lineSafe := by
  rw [State.lineSafe_iff, State.enterStopped_attempt, ha]
  simpa [State.enterStopped, State.setActivity, Engine.endRun, State.closeGap] using inStep_atRest rfl

theorem State.enterHalted_lineSafe {s : State} (ha : s.attempt = none) : s.enterHalted.lineSafe := by
  rw [State.lineSafe_iff, State.enterHalted_attempt, ha]
  simpa [State.enterHalted, State.setActivity, Engine.endRun, State.closeGap] using inStep_atRest rfl


/-! ### What the requests do -/

/-- Two states agree in all that `State.lineSafe` reads. -/
def State.sameTurn (s t : State) : Prop :=
  t.line.activity = s.line.activity ∧ t.engine.state = s.engine.state ∧ t.sched.openGap = s.sched.openGap
  ∧ t.attempt = s.attempt

theorem State.sameTurn.lineSafe {s t : State} (e : s.sameTurn t) (h : s.lineSafe) : t.lineSafe := by
  obtain ⟨hl, he, hg, ha⟩ := e
  exact State.lineSafe_of_eq h hl he hg ha

/-- No request but START and STOP touches the line state, the engine state, the open gap or the attempt. -/
theorem Request.answer_sameTurn {q : Request} (b : Bytes) (s : State) (h1 : q ≠ .start) (h2 : q ≠ .stop) :
    s.sameTurn (q.answer b s).1 := by
  unfold State.sameTurn
  cases q
  case start => exact absurd rfl h1
  case stop => exact absurd rfl h2
  case configureStation =>
    simp only [Request.answer, answerConfigureStation, State.refuse]
    split
    · simp
    · split
      · simp
      · split <;> simp
  all_goals
    simp only [Request.answer, answerIdentify, answerResetDevice, answerConfigureLine, answerReadLine,
      answerConfigureRound, answerReadRound, answerDefineSegment, answerDeleteSegment, answerUpdateSegment,
      answerReadSegment, answerEnableStation, answerDisableStation, answerReadStation, answerSubmit, answerCancel,
      answerReadQueue, answerConfigureInbound, answerTakeMessages, answerFetchReports, answerAckReports,
      answerReadEvents, answerAckEvent, answerMaskEvents, State.refuse]
    repeat' split
    all_goals simp [State.setTable]

/-- START, taken in STOPPED, puts the idle line in QUIET. -/
theorem State.lineSafe.beginRun {s : State} (h : s.lineSafe) (hs : s.engine.state = .stopped) : s.beginRun.lineSafe := by
  obtain ⟨-, hgap, hatt⟩ := h.at_rest (by rw [hs]; rfl)
  have hact : s.beginRun.line.activity = .quiet { countedTo := s.now, lows := 0 } := by
    simp [State.beginRun, State.goQuiet, State.setActivity]
  have heng : s.beginRun.engine.state = .settling := rfl
  rw [State.lineSafe_iff, hact, heng, State.beginRun_sched, State.beginRun_attempt, hgap, hatt]
  exact ⟨by simp [EngineState.atRest], fun _ => rfl, by simp, trivial⟩

/-- STOP in RUNNING: STOPPED on a QUIET line at its round's end, and STOPPING otherwise, with the line as it was. -/
theorem State.lineSafe.stopRunning {s : State} (h : s.lineSafe) (hs : s.engine.state = .running) :
    s.stopRunning.lineSafe := by
  simp only [State.stopRunning]
  split
  · next hc =>
    exact State.enterStopped_lineSafe (by simpa using h.attempt_of_quiet hc.2)
  · obtain ⟨hoff, -, -, ha⟩ := s.lineSafe_iff.mp h
    rw [hs] at hoff
    exact (State.lineSafe_iff _).mpr ⟨hoff, nofun, nofun, ha⟩

theorem State.lineSafe.stop {s : State} (h : s.lineSafe) : s.stop.lineSafe := by
  unfold State.stop
  split
  · exact h
  · next hs =>
    obtain ⟨-, hset, -, -⟩ := id h
    exact State.enterStopped_lineSafe (h.attempt_of_quiet (hset hs))
  · next hs => exact h.stopRunning hs
  · exact h
  · next hs =>
    obtain ⟨hact, hgap, hatt⟩ := h.at_rest (by rw [hs]; rfl)
    rw [State.lineSafe_iff, State.clearFault_line, State.clearFault_sched, State.clearFault_attempt, hact, hgap, hatt]
    simpa [State.clearFault] using inStep_atRest rfl

theorem Request.answer_lineSafe (q : Request) (b : Bytes) (s : State) (h : s.lineSafe) : (q.answer b s).1.lineSafe := by
  by_cases h1 : q = .start
  · subst h1
    simp only [Request.answer, answerStart, State.refuse]
    split
    · exact h
    · split
      · exact h
      · next hs =>
        split
        · exact h.beginRun (not_not.mp hs)
        · exact h
  · by_cases h2 : q = .stop
    · subst h2
      simp only [Request.answer, answerStop, State.refuse]
      split
      · exact h
      · exact h.stop
    · exact (q.answer_sameTurn b s h1 h2).lineSafe h

/-! ### What the rounds do -/

theorem State.startRound_lineSafe {s : State} (missing : Bool) (ha : s.attempt = none)
    (he : s.engine.state = .running ∨ s.engine.state = .settling) : (s.startRound missing).lineSafe := by
  have heng : (s.startRound missing).engine.state = .running := by
    cases missing <;> rcases he with he | he <;>
      simp [State.startRound, State.layRound, State.commitTable, State.enterRunning, Engine.raised, he]
  have hact : ∃ f, (s.startRound missing).line.activity = .sending f ∧ f.isTransaction = false := by
    simp [State.startRound, State.sendSync, State.setActivity, SendFrame.isTransaction]
  obtain ⟨f, hf, hk⟩ := hact
  rw [State.lineSafe_iff, heng, hf, State.startRound_attempt, ha]
  exact inStep_running (by simp) hk

theorem State.lineSafe.settleExpired {s : State} (h : s.lineSafe) (he : s.engine.state = .settling)
    (hq : s.isQuiet = true) : s.settleExpired.lineSafe := by
  unfold State.settleExpired
  split
  · exact State.startRound_lineSafe _ (h.attempt_of_quiet hq) (Or.inr he)
  · exact h

theorem State.lineSafe.trigEdge {s : State} (h : s.lineSafe) : s.trigEdge.lineSafe := by
  refine State.lineSafe_of_eq h (by simp) ?_ (by simp) (by simp)
  unfold State.trigEdge State.acceptEdge
  repeat' split
  all_goals simp

theorem State.lineSafe.sendSegment {s : State} (h : s.lineSafe)
    (he : s.engine.state = .running ∨ s.engine.state = .stopping) (hq : s.isQuiet = true) : s.sendSegment.lineSafe := by
  have ha := h.attempt_of_quiet hq
  unfold State.sendSegment
  split
  · dsimp only
    split
    · next g _ =>
      obtain ⟨-, -, hgap, -⟩ := s.lineSafe_iff.mp h
      rw [State.lineSafe_iff]
      refine ⟨⟨nofun, fun hr => ?_⟩, fun hs => ?_, hgap, ?_⟩
      · rcases he with he | he <;> simp [he, EngineState.atRest] at hr
      · rcases he with he | he <;> simp [he] at hs
      · show attemptMatches _ s.attempt
        rw [ha]; rfl
    · exact h
  · exact h

theorem State.lineSafe.openGap {s : State} (h : s.lineSafe) (he : s.engine.state = .running) : s.openGap.lineSafe := by
  unfold State.openGap
  split
  · obtain ⟨hoff, hset, -, ha⟩ := s.lineSafe_iff.mp h
    exact State.lineSafe.walk ((State.lineSafe_iff _).mpr ⟨hoff, hset, fun _ => he, ha⟩)
  · exact h

theorem State.lineSafe.closeGap {s : State} (h : s.lineSafe) : s.closeGap.lineSafe := by
  obtain ⟨hoff, hset, -, ha⟩ := s.lineSafe_iff.mp h
  exact (State.lineSafe_iff _).mpr ⟨hoff, hset, nofun, ha⟩

/-! ### What the line and the turn do -/

/-- The phase, and the kind of the frame, of an attempt whose frame is being sent. -/
theorem State.lineSafe.attempt_of_sending {s : State} (h : s.lineSafe) {f : SendFrame}
    (hf : s.line.activity = .sending f) {a : Attempt} (ha : s.attempt = some a) :
    a.phase = .sending ∧ f.kind = a.kind.frameKind := by
  have hm := h.matches ha
  rw [hf] at hm
  cases hp : a.phase <;> simp [hp, phaseMatches] at hm
  exact ⟨rfl, hm⟩

/-- The frame of an attempt is a transaction frame, and closes with TURN unless it is a SEND. -/
theorem TxnKind.frameKind_cases (k : TxnKind) :
    k.frameKind ≠ .sync ∧ k.frameKind ≠ .segment ∧ (k.frameKind.closesWithTurn = true ∨ k.frameKind = .send) := by
  cases k <;> decide

theorem State.lineSafe.frameSent {s : State} {f : SendFrame} (h : s.lineSafe) (hf : s.line.activity = .sending f) :
    (s.frameSent f).lineSafe := by
  have hb : s.line.activity.busy = true := by rw [hf]; rfl
  unfold State.frameSent
  split
  · next ha =>
    refine h.move hb (by simp) (by simp) nofun ?_
    rw [State.goQuiet_attempt, ha]; trivial
  · next a ha =>
    split
    · exact h.move hb (by simp) (by simp) nofun trivial
    · next hc =>
      obtain ⟨-, hk⟩ := h.attempt_of_sending hf ha
      obtain ⟨-, -, hturn⟩ := a.kind.frameKind_cases
      rw [← hk] at hturn
      rw [if_pos (hturn.resolve_left hc)]
      exact State.endAttempt_lineSafe a .sent (h.move hb (by simp) (by simp) nofun trivial)

/-- A frame aborted under YIELD: RECLAIM, with its attempt in RECLAIMING when it is a transaction's. -/
theorem State.lineSafe.abortFrame {s : State} {f : SendFrame} (h : s.lineSafe) (hf : s.line.activity = .sending f) :
    (s.abortFrame f).lineSafe := by
  have hb : s.line.activity.busy = true := by rw [hf]; rfl
  unfold State.abortFrame
  split
  · split
    · exact h.move hb (by simp) (by simp) nofun trivial
    · next ha =>
      refine h.move hb (by simp) (by simp) nofun ?_
      rw [State.goReclaim_attempt, ha]; trivial
  · next hround =>
    refine h.move hb (by simp) (by simp) nofun ?_
    cases ha : s.attempt with
    | none => rw [State.setActivity_attempt, ha]; trivial
    | some a =>
      obtain ⟨-, hk⟩ := h.attempt_of_sending hf ha
      obtain ⟨hsync, hseg, -⟩ := a.kind.frameKind_cases
      simp [SendFrame.isTransaction, hk, hsync, hseg] at hround

/-- The monitor marks the frame: its kind, and so the match with the attempt, stays. -/
theorem State.lineSafe.markContended {s : State} {f : SendFrame} (h : s.lineSafe)
    (hf : s.line.activity = .sending f) : (s.setActivity (.sending { f with contended := true })).lineSafe := by
  refine h.move (by rw [hf]; rfl) rfl rfl nofun ?_
  rw [State.setActivity_attempt]
  cases ha : s.attempt with
  | none =>
    obtain ⟨-, -, -, hm⟩ := s.lineSafe_iff.mp h
    rw [hf, ha] at hm
    exact hm
  | some a =>
    obtain ⟨hp, hk⟩ := h.attempt_of_sending hf ha
    show phaseMatches a.kind a.phase _
    rw [hp]; exact hk

theorem State.countContention_activity (s : State) (f : SendFrame) :
    (s.countContention f).line.activity = s.line.activity := by
  simp [State.countContention]

theorem State.lineSafe.countContention {s : State} (h : s.lineSafe) (f : SendFrame) : (s.countContention f).lineSafe :=
  State.lineSafe_of_eq h (s.countContention_activity f) (by simp) (by simp) (by simp)

theorem State.lineSafe.contend {s : State} (h : s.lineSafe) : s.contend.lineSafe := by
  unfold State.contend
  split
  · next f hf =>
    split
    · exact h
    · split
      · exact (h.countContention f).abortFrame (by rw [State.countContention_activity, hf])
      · exact (h.markContended hf).countContention f
  all_goals exact h

theorem offered_of_phaseMatches {k : TxnKind} {act : LineActivity} (h : phaseMatches k .guard act) :
    ∃ g, act = .offered g := by
  cases act <;> simp [phaseMatches] at h ⊢

theorem State.lineSafe.guardEnded {s : State} (h : s.lineSafe) : s.guardEnded.lineSafe := by
  unfold State.guardEnded
  split
  · next a ha =>
    split
    · next hp =>
      have hm := h.matches ha
      rw [hp] at hm
      obtain ⟨g, hact⟩ := offered_of_phaseMatches hm
      refine h.move (by rw [hact]; rfl) rfl rfl ?_ ?_ <;> rw [State.setPhase_line, hact]
      · nofun
      · trivial
    · exact h
  · exact h

/-- A frame in progress or none: the receiver's part of LISTENING is no matter of the attempt's phase. -/
theorem attemptMatches_listening {r r' : Receiver} {att : Option Attempt} (h : attemptMatches (.listening r) att) :
    attemptMatches (.listening r') att := by
  cases att with
  | none => exact h
  | some a =>
    simp only [attemptMatches] at h ⊢
    cases hp : a.phase <;> simp [hp, phaseMatches] at h ⊢

theorem State.lineSafe.stationStart {s : State} (h : s.lineSafe) : s.stationStart.lineSafe := by
  unfold State.stationStart
  split
  · next hact _ => exact h.move (by rw [hact]; rfl) (by simp) (by simp) nofun trivial
  · next hact =>
    obtain ⟨-, -, -, hm⟩ := s.lineSafe_iff.mp h
    rw [hact] at hm
    exact h.move (by rw [hact]; rfl) (by simp) (by simp) nofun (attemptMatches_listening hm)
  · exact h

theorem State.phase_eq_some {s : State} {p : Phase} : s.phase = some p ↔ ∃ a, s.attempt = some a ∧ a.phase = p := by
  simp [State.phase]

theorem State.lineSafe.responseExpired {s : State} {x : Time} (h : s.lineSafe) (hp : s.phase = some (.waiting x)) :
    s.responseExpired.lineSafe := by
  obtain ⟨a, ha, -⟩ := State.phase_eq_some.mp hp
  simp only [State.responseExpired, ha]
  exact h.move (busy_of_phaseMatches (h.matches ha)) (by simp) (by simp) nofun trivial

/-! ### Delivered frames -/

/-- A phase in which the talk limit runs goes with LISTENING and no other line state. -/
theorem phaseMatches_of_talks {k : TxnKind} {p : Phase} (hp : p.talks) {act : LineActivity} :
    phaseMatches k p act ↔ ∃ r, act = .listening r := by
  cases p <;> simp only [Phase.talks] at hp <;> cases act <;> simp [phaseMatches]

/-- In LISTENING the talk limit runs. -/
theorem talks_of_phaseMatches {k : TxnKind} {p : Phase} {r : Receiver} (h : phaseMatches k p (.listening r)) :
    p.talks := by
  cases p <;> simp [phaseMatches, Phase.talks] at h ⊢

/-- A frame that passes all seven steps is of an allowed kind and closes as its turn and mark say. -/
theorem judgeFrame_passed {p : HeaderPolicy} {a : Attempt} {allowed : FrameKind → Bool} {f : DecodedFrame}
    (h : (judgeFrame p a allowed f).1 = none) :
    ∃ k, FrameKind.ofCode f.header.kind = some k ∧ allowed k = true ∧ closingAgrees k f = true := by
  unfold judgeFrame at h
  split at h
  · cases h
  · dsimp only at h
    split at h
    · cases h
    · next k hk =>
      split at h
      · cases h
      · next hsteps =>
        split at h
        · cases h
        · split at h
          · cases h
          · next hclose =>
            simp only [stepsTwoToFive, Bool.not_eq_false, Bool.and_eq_true] at hsteps
            obtain ⟨⟨⟨hallowed, -⟩, -⟩, -⟩ := hsteps
            exact ⟨k, hk, hallowed, by simpa using hclose⟩

/-- A frame closes the turn exactly when the phase after it is RECLAIMING; otherwise the turn goes on. -/
def phaseFollows (c : Closing) (p : Phase) : Prop := if c = .turn then p = .reclaiming else p.talks

theorem phaseFollows_phaseAfter (c : Closing) {p : Phase} (hp : p.talks) : phaseFollows c (phaseAfter c p) := by
  unfold phaseFollows phaseAfter
  split <;> trivial

theorem Attempt.takeFirst_phase (a : Attempt) (p : HeaderPolicy) (limit : Time) (f : DecodedFrame) :
    phaseFollows f.closing (a.takeFirst p limit f).phase := by
  unfold Attempt.takeFirst
  dsimp only
  split
  · exact phaseFollows_phaseAfter _ trivial
  · next hv =>
    obtain ⟨k, -, -, hclose⟩ := judgeFrame_passed hv
    unfold closingAgrees at hclose
    by_cases hmark : f.header.mark = true
    · simp only [hmark, if_true, Bool.and_eq_true, beq_iff_eq] at hclose ⊢
      simp [phaseFollows, hclose.2, Phase.talks]
    · simp only [if_neg hmark, Bool.and_eq_true, beq_iff_eq] at hclose ⊢
      simp [phaseFollows, hclose.2]

theorem Attempt.takeTrailer_phase (a : Attempt) (p : HeaderPolicy) (limit : Time) (f : DecodedFrame) :
    phaseFollows f.closing (a.takeTrailer p limit f).phase := by
  unfold Attempt.takeTrailer
  dsimp only
  split
  · exact phaseFollows_phaseAfter _ trivial
  · next hfail =>
    have hv : (judgeFrame p a (fun k => k == .errorReport) f).1 = none := by
      split at hfail
      · cases hfail
      · exact hfail
    obtain ⟨k, -, hk, hclose⟩ := judgeFrame_passed hv
    have hturn : f.closing = .turn := by
      unfold closingAgrees at hclose
      split at hclose
      · simp [eq_of_beq hk] at hclose
      · rw [Bool.and_eq_true] at hclose
        exact eq_of_beq hclose.2
    simp [phaseFollows, hturn]

theorem Attempt.takeFrame_phase {a : Attempt} (p : HeaderPolicy) (f : DecodedFrame) (h : a.phase.talks) :
    phaseFollows f.closing (a.takeFrame p f).phase := by
  unfold Attempt.takeFrame
  split
  · exact a.takeFirst_phase _ _ _
  · exact a.takeTrailer_phase _ _ _
  · exact phaseFollows_phaseAfter _ trivial
  all_goals next hp => rw [hp] at h; exact h.elim

theorem State.lineSafe.deliver {s : State} {r : Receiver} (bytes : Bytes) (e : FrameEnd) (h : s.lineSafe)
    (hr : s.line.activity = .listening r) : (s.deliver bytes e).lineSafe := by
  have hb : s.line.activity.busy = true := by rw [hr]; rfl
  unfold State.deliver
  split
  · exact h
  · next a ha =>
    have hm := h.matches ha
    rw [hr] at hm
    have hphase := a.takeFrame_phase s.line.config.headerPolicy
      (decodeStationFrame s.line.config.crcCheck bytes e) (talks_of_phaseMatches hm)
    unfold phaseFollows at hphase
    dsimp only
    split
    · next hc =>
      rw [if_pos hc] at hphase
      refine h.move hb (by simp) (by simp) nofun ?_
      show phaseMatches _ _ (.reclaim _)
      rw [hphase]; trivial
    · next hc =>
      rw [if_neg hc] at hphase
      refine h.move hb (by simp) (by simp) nofun ?_
      exact (phaseMatches_of_talks hphase).mpr ⟨_, rfl⟩

theorem Attempt.cutOff_phase {a : Attempt} (h : a.phase.talks) : a.cutOff.phase = .reclaiming := by
  unfold Attempt.cutOff
  split
  · rfl
  · rfl
  · rfl
  all_goals next hp => rw [hp] at h; exact h.elim

theorem State.lineSafe.talkExpired {s : State} {p : Phase} (h : s.lineSafe) (hp : s.phase = some p) (ht : p.talks) :
    s.talkExpired.lineSafe := by
  obtain ⟨a, ha, rfl⟩ := State.phase_eq_some.mp hp
  obtain ⟨r, hr⟩ := (phaseMatches_of_talks ht).mp (h.matches ha)
  simp only [State.talkExpired, ha]
  refine h.move (by rw [hr]; rfl) (by simp) (by simp) nofun ?_
  show phaseMatches _ _ (.reclaim _)
  rw [Attempt.cutOff_phase ht]; trivial

theorem State.lineSafe.reclaimed {s : State} {x : Time} (h : s.lineSafe) (hr : s.line.activity = .reclaim x) :
    s.reclaimed.lineSafe := by
  have hb : s.line.activity.busy = true := by rw [hr]; rfl
  unfold State.reclaimed
  split
  · exact State.endAttempt_lineSafe _ _ (h.move hb (by simp) (by simp) nofun trivial)
  · next ha =>
    refine h.move hb (by simp) (by simp) nofun ?_
    rw [State.goQuiet_attempt, ha]; trivial

/-! ### Every step -/

theorem State.lineSafe.sample {s : State} (m : StuckMonitor) (h : s.lineSafe) (hq : s.isQuiet = true) :
    (s.setActivity (.quiet m)).lineSafe := by
  obtain ⟨q, hact⟩ := State.isQuiet_iff.mp hq
  obtain ⟨hoff, -, hgap, -⟩ := s.lineSafe_iff.mp h
  rw [hact] at hoff
  refine (State.lineSafe_iff _).mpr ⟨⟨nofun, fun hr => absurd (hoff.mpr hr) nofun⟩, fun _ => rfl, hgap, ?_⟩
  rw [State.setActivity_attempt, h.attempt_of_quiet hq]; trivial

theorem keeps_lineSafe : Keeps State.lineSafe where
  now _ _ h := h
  pending _ _ h := h
  hold _ _ h := h
  port _ _ h := h
  reset _ _ := (State.lineSafe_iff _).mpr (inStep_atRest rfl)
  hostError _ _ h := State.lineSafe_of_eq h (by simp) (by simp) (by simp) (by simp)
  request q b s h := q.answer_lineSafe b s h
  settle _ h he hq := h.settleExpired he hq
  round _ missing h he hq := State.startRound_lineSafe missing (h.attempt_of_quiet hq) he
  trig _ h := h.trigEdge
  segment _ h he hq := h.sendSegment he hq
  opening _ h he _ := h.openGap he
  gapEnd _ h := h.closeGap
  roundEnd _ h _ hq := State.enterStopped_lineSafe (h.attempt_of_quiet hq)
  fault _ h _ hq := State.enterHalted_lineSafe (h.attempt_of_quiet hq)
  sample _ m h hq := h.sample m hq
  sent _ _ h hf := h.frameSent hf
  contend _ h := h.contend
  guard _ h := h.guardEnded
  start _ h := h.stationStart
  expired _ _ h hp := h.responseExpired hp
  deliver _ bytes e _ h hr := h.deliver bytes e hr
  talk _ _ h hp ht := h.talkExpired hp ht
  reclaimed _ _ h hr := h.reclaimed hr

/-- Settles O58: `State.lineSafe` is kept by every operation a step can come to. -/
theorem stepsKeepLineEngineAndTurn : Obligations.StepsKeepLineEngineAndTurn := by
  unfold Obligations.StepsKeepLineEngineAndTurn
  exact fun _ _ h e => keeps_lineSafe.step h e

end Sys2Proof.Machine
end

section
namespace Sys2Proof.Machine

/-! ## CONFIGURE LINE and CONFIGURE ROUND (O16) -/

theorem u8_le (b : Bytes) (i : Nat) : u8 b i ≤ 255 := by
  have h := (b.getD i 0).isLt
  unfold u8
  omega

theorem u16_le (b : Bytes) (i : Nat) : u16 b i ≤ 65535 := by
  have h1 := u8_le b i
  have h2 := u8_le b (i + 1)
  unfold u16
  omega

/-! ### Check 2: the values -/

theorem LineConfig.inRange_iff {c : LineConfig} :
    c.inRange = true ↔
      (c.rate = 1 ∨ c.rate = 2 ∨ c.rate = 4 ∨ c.rate = 8 ∨ c.rate = 16) ∧ (8 ≤ c.turnGuard ∧ c.turnGuard ≤ 255)
      ∧ (1 ≤ c.writeTimeout ∧ c.writeTimeout ≤ 4095) ∧ (1 ≤ c.readTimeout ∧ c.readTimeout ≤ 4095)
      ∧ (1 ≤ c.pollTimeout ∧ c.pollTimeout ≤ 4095) ∧ (1 ≤ c.probeTimeout ∧ c.probeTimeout ≤ 4095)
      ∧ (16 ≤ c.stuckTime ∧ c.stuckTime ≤ 4095) := by
  simp only [LineConfig.inRange, Bool.and_eq_true, Bool.or_eq_true, beq_iff_eq, decide_eq_true_eq, and_assoc, or_assoc]

theorem RoundConfig.inRange_iff {c : RoundConfig} :
    c.inRange = true ↔
      (100 ≤ c.period ∧ c.period ≤ 65535) ∧ c.triggerDelay ≤ 4095 ∧ (100 ≤ c.minPeriod ∧ c.minPeriod ≤ 65535)
      ∧ (c.minPeriod ≤ c.maxPeriod ∧ c.maxPeriod ≤ 65535) ∧ (20 ≤ c.settleTime ∧ c.settleTime ≤ 65535)
      ∧ (c.segmentGap = 0 ∨ (20 ≤ c.segmentGap ∧ c.segmentGap ≤ 4095)) ∧ (10 ≤ c.minClosing ∧ c.minClosing ≤ 65535) := by
  simp only [RoundConfig.inRange, Bool.and_eq_true, decide_eq_true_eq, and_assoc]

/-- The ten values of a CONFIGURE LINE body lie in the ranges of R22, the enumerated ones among their codes: the one-byte
turn guard cannot pass 255. -/
theorem lineConfigOf_accepted_iff (b : Bytes) :
    (u8 b 2 ≤ 1 ∧ u8 b 3 ≤ 1 ∧ u8 b 4 ≤ 1 ∧ (lineConfigOf b).inRange = true) ↔
      ((u8 b 0 = 1 ∨ u8 b 0 = 2 ∨ u8 b 0 = 4 ∨ u8 b 0 = 8 ∨ u8 b 0 = 16) ∧ 8 ≤ u8 b 1
        ∧ u8 b 2 ≤ 1 ∧ u8 b 3 ≤ 1 ∧ u8 b 4 ≤ 1
        ∧ (1 ≤ u16 b 5 ∧ u16 b 5 ≤ 4095) ∧ (1 ≤ u16 b 7 ∧ u16 b 7 ≤ 4095)
        ∧ (1 ≤ u16 b 9 ∧ u16 b 9 ≤ 4095) ∧ (1 ≤ u16 b 11 ∧ u16 b 11 ≤ 4095)
        ∧ (16 ≤ u16 b 13 ∧ u16 b 13 ≤ 4095)) := by
  have hguard := u8_le b 1
  simp only [LineConfig.inRange_iff, lineConfigOf]
  omega

/-- The eight values of a CONFIGURE ROUND body lie in the ranges of R47: a two-byte field cannot pass 65535. -/
theorem roundConfigOf_accepted_iff (b : Bytes) :
    (u8 b 0 ≤ 1 ∧ (roundConfigOf b).inRange = true) ↔
      (u8 b 0 ≤ 1 ∧ 100 ≤ u16 b 1 ∧ u16 b 3 ≤ 4095 ∧ 100 ≤ u16 b 5 ∧ u16 b 5 ≤ u16 b 7 ∧ 20 ≤ u16 b 9
        ∧ (u16 b 11 = 0 ∨ (20 ≤ u16 b 11 ∧ u16 b 11 ≤ 4095)) ∧ 10 ≤ u16 b 13) := by
  have hperiod := u16_le b 1
  have hmin := u16_le b 5
  have hmax := u16_le b 7
  have hsettle := u16_le b 9
  have hclosing := u16_le b 13
  simp only [RoundConfig.inRange_iff, roundConfigOf]
  omega

/-- The configuration of an accepted CONFIGURE LINE body: crc_check carries the code 0 or 1. -/
theorem lineConfigOf_eq {b : Bytes} (h : u8 b 4 ≤ 1) :
    lineConfigOf b =
      { rate := u8 b 0, turnGuard := u8 b 1
        contentionPolicy := if u8 b 2 = 0 then .yield else .persist
        headerPolicy := if u8 b 3 = 0 then .strict else .lenient
        crcCheck := decide (u8 b 4 = 1)
        writeTimeout := u16 b 5, readTimeout := u16 b 7, pollTimeout := u16 b 9, probeTimeout := u16 b 11
        stuckTime := u16 b 13 } := by
  have hcode : (u8 b 4 != 0) = decide (u8 b 4 = 1) := by
    rcases Nat.le_one_iff_eq_zero_or_eq_one.mp h with h | h <;> rw [h] <;> rfl
  rw [lineConfigOf, hcode]

/-! ### The three checks in order -/

/-- Check 3: the request is taken at rest only. -/
theorem EngineState.atRest_iff {e : EngineState} : e.atRest = true ↔ ¬ (e ≠ .stopped ∧ e ≠ .halted) := by
  cases e <;> decide

/-- CONFIGURE LINE's checks in order, and its work. -/
theorem exec_configureLine {tag : Byte} {b : Bytes} {s : State} (h : s.takes tag 0x10 b) :
    exec (.configureLine tag b) s = .next (
      if b.length ≠ 15 then s.refused .configureLine tag b .badLength
      else if ¬ (u8 b 2 ≤ 1 ∧ u8 b 3 ≤ 1 ∧ u8 b 4 ≤ 1 ∧ (lineConfigOf b).inRange = true) then
        s.refused .configureLine tag b .badValue
      else if s.engine.state ≠ .stopped ∧ s.engine.state ≠ .halted then s.refused .configureLine tag b .wrongState
      else s.answered (s.setLine { s.line with config := lineConfigOf b }) .configureLine tag b .ok []) := by
  refine (exec_request (q := .configureLine) h).trans ?_
  simp only [Request.answer, answerConfigureLine, decodeConfigureLine, EngineState.atRest_iff, ite_not]
  split_ifs <;> rfl

/-- CONFIGURE ROUND's checks in order, and its work. -/
theorem exec_configureRound {tag : Byte} {b : Bytes} {s : State} (h : s.takes tag 0x14 b) :
    exec (.configureRound tag b) s = .next (
      if b.length ≠ 15 then s.refused .configureRound tag b .badLength
      else if ¬ (u8 b 0 ≤ 1 ∧ (roundConfigOf b).inRange = true) then s.refused .configureRound tag b .badValue
      else if s.engine.state ≠ .stopped ∧ s.engine.state ≠ .halted then s.refused .configureRound tag b .wrongState
      else s.answered (s.setEngine { s.engine with config := roundConfigOf b }) .configureRound tag b .ok []) := by
  refine (exec_request (q := .configureRound) h).trans ?_
  simp only [Request.answer, answerConfigureRound, decodeConfigureRound, EngineState.atRest_iff, ite_not]
  split_ifs <;> rfl

/-- Settles O16: the checks of both requests one after the other, the values in the spec's own ranges. -/
theorem configureLineAndRound : Obligations.ConfigureLineAndRound := by
  unfold Obligations.ConfigureLineAndRound
  refine ⟨fun tag b s h => (exec_configureLine h).trans (congrArg _ ?_),
    fun tag b s h => (exec_configureRound h).trans (congrArg _ ?_)⟩
  · refine if_ctx_congr Iff.rfl (fun _ => rfl) fun _ =>
      if_ctx_congr (not_congr (lineConfigOf_accepted_iff b)) (fun _ => rfl) fun hval => ?_
    obtain ⟨-, -, -, -, hcheck, -⟩ := not_not.mp hval
    rw [lineConfigOf_eq hcheck]
  · exact if_ctx_congr Iff.rfl (fun _ => rfl) fun _ =>
      if_ctx_congr (not_congr (roundConfigOf_accepted_iff b)) (fun _ => rfl) fun _ => rfl

end Sys2Proof.Machine
end

section
namespace Sys2Proof.Machine

/-! ## The line's events: FRAME_SENT, CONTENTION, and the offered line (O46, O47, O48) -/

/-! ### FRAME_SENT -/

/-- FRAME_SENT at the end of the frame's closing symbol. -/
theorem exec_frameSent {s : State} {f : SendFrame} (hheld : s.held = false) (hact : s.line.activity = .sending f)
    (hc : s.comes f.endAt) : exec .frameSent s = .next ((s.upTo f.endAt).frameSent f) := by
  have hdue : s.dueAt .frameSent = some f.endAt := by simp only [State.dueAt, hact]
  show Host.Outcome.next _ = _
  rw [State.whenFree_of_free hheld, hdue, State.atMoment_comes hc]
  simp only [State.upTo_line, hact]

theorem State.frameSent_round {s : State} (f : SendFrame) (h : s.attempt = none) : s.frameSent f = s.goQuiet := by
  simp only [State.frameSent, h]

theorem State.frameSent_turn {s : State} {f : SendFrame} {a : Attempt} (h : s.attempt = some a)
    (hk : f.kind.closesWithTurn = true) :
    s.frameSent f = (s.setActivity (.offered (s.now + s.bits s.line.config.turnGuard))).setPhase a .guard := by
  simp only [State.frameSent, h, hk, if_true]

theorem State.frameSent_send {s : State} {f : SendFrame} {a : Attempt} (h : s.attempt = some a)
    (hk : f.kind = .send) : s.frameSent f = s.goQuiet.endAttempt a .sent := by
  simp only [State.frameSent, h, hk, FrameKind.closesWithTurn, if_true]
  rfl

/-- The master kinds that close with TURN (R5). -/
theorem FrameKind.closesWithTurn_iff {k : FrameKind} :
    k.closesWithTurn = true ↔ k = .write ∨ k = .read ∨ k = .poll ∨ k = .join := by
  cases k <;> decide

/-- Settles O46: the three ends of a master frame, each at the moment its closing symbol ends. -/
theorem frameSent : Obligations.FrameSent := by
  unfold Obligations.FrameSent
  intro s f hheld hact hc
  rw [exec_frameSent hheld hact hc]
  refine ⟨fun ha => ?_, fun a ha hk => ?_, fun a ha hk => ?_⟩
  · rw [State.frameSent_round (s := s.upTo f.endAt) f ha]; rfl
  · rw [State.frameSent_turn (s := s.upTo f.endAt) ha (FrameKind.closesWithTurn_iff.mpr hk)]; rfl
  · rw [State.frameSent_send (s := s.upTo f.endAt) ha hk]; rfl

/-! ### CONTENTION -/

/-- A mismatch in the middle of a bit time of the frame being sent is taken at that moment. -/
theorem exec_contention {s : State} {f : SendFrame} {bit : Nat} {high : Bool} {m : Time} (hheld : s.held = false)
    (hact : s.line.activity = .sending f) (hm : s.middleOf f bit = m) (hnow : s.now ≤ m) (hc : s.comes m)
    (hd : f.drivenAt bit = some (!high)) : exec (.contention bit high) s = .next (s.upTo m).contend := by
  have hmis : s.mismatchAt bit high = some m := State.mismatchAt_eq_some.mpr ⟨f, hact, hd, hnow, hm⟩
  show Host.Outcome.next _ = _
  rw [State.whenFree_of_free hheld, hmis, State.atMoment_comes hc]

/-- With no mismatch to come, CONTENTION does nothing. -/
theorem exec_contention_none {s : State} {bit : Nat} {high : Bool} (hheld : s.held = false)
    (hmis : ∀ m, s.mismatchAt bit high ≠ some m) : exec (.contention bit high) s = .next s := by
  show Host.Outcome.next _ = _
  rw [State.whenFree_of_free hheld, Option.eq_none_iff_forall_ne_some.mpr hmis, State.atMoment_none]

/-- An occurrence does not look at the line. -/
theorem State.occur_setLine (s : State) (l : LineIface) (src : SourceId) (d : Detail) :
    (s.setLine l).occur src d = (s.occur src d).setLine l := by
  unfold State.occur
  dsimp only
  by_cases h : (s.source src).latched = true ∨ (s.source src).masked = true
  · rw [if_pos h]
    exact if_pos h
  · rw [if_neg h]
    exact if_neg h

/-- A contention counts once and makes its occurrence; the order of the two does not matter. -/
theorem State.countContention_eq (s : State) (f : SendFrame) :
    s.countContention f
      = (s.occur srcContention (.frame f.kind)).setLine
          { s.line with contentions := min 65535 (s.line.contentions + 1) } :=
  s.occur_setLine _ _ _

theorem SendFrame.isTransaction_eq_false {f : SendFrame} :
    f.isTransaction = false ↔ f.kind = .sync ∨ f.kind = .segment := by
  simp [SendFrame.isTransaction, or_iff_not_imp_left]

/-- The first mismatch of a frame under YIELD: it counts, and the frame is cut off. -/
theorem State.contend_yield {s : State} {f : SendFrame} (hact : s.line.activity = .sending f) (hend : s.now < f.endAt)
    (hf : f.contended = false) (hp : s.line.config.contentionPolicy = .yield) :
    s.contend = (s.countContention f).abortFrame f := by
  simp only [State.contend, hact, hp]
  rw [if_neg (by simpa [hf] using hend)]

/-- The first mismatch of a frame under PERSIST: it counts, and the frame goes on. -/
theorem State.contend_persist {s : State} {f : SendFrame} (hact : s.line.activity = .sending f)
    (hend : s.now < f.endAt) (hf : f.contended = false) (hp : s.line.config.contentionPolicy = .persist) :
    s.contend = (s.setActivity (.sending { f with contended := true })).countContention f := by
  simp only [State.contend, hact, hp]
  rw [if_neg (by simpa [hf] using hend)]

/-- A later mismatch of the frame does nothing (R19). -/
theorem State.contend_again {s : State} {f : SendFrame} (hact : s.line.activity = .sending f)
    (hf : f.contended = true) : s.contend = s := by
  simp only [State.contend, hact]
  rw [if_pos (Or.inl hf)]

theorem State.abortFrame_transaction {s : State} {f : SendFrame} {a : Attempt} (hf : f.isTransaction = true)
    (ha : s.attempt = some a) :
    s.abortFrame f
      = s.goReclaim.setAttempt (some { a with phase := .reclaiming, provisional := some .contention }) := by
  simp only [State.abortFrame, hf, if_true, ha]

theorem State.abortFrame_round {s : State} {f : SendFrame} (hf : f.isTransaction = false) :
    s.abortFrame f = s.setActivity (.reclaim (min (s.now + s.bits s.line.config.turnGuard) f.endAt)) := by
  simp [State.abortFrame, hf]

/-- A bit time is twice its half at every rate of R22. -/
theorem State.two_halfBits {s : State} (h : s.line.config.inRange = true) : 2 * s.halfBit = s.bits 1 := by
  obtain ⟨hrate, -⟩ := LineConfig.inRange_iff.mp h
  unfold State.halfBit State.bits LineConfig.halfBit LineConfig.bits LineConfig.unitsPerBit
  rcases hrate with h | h | h | h | h <;> rw [h]

/-- The leading idle: none before a round frame, 20 bit times before a transaction frame (R4). -/
theorem SendFrame.leadBits_eq (f : SendFrame) :
    f.leadBits = if f.kind = .sync ∨ f.kind = .segment then 0 else 20 := by
  unfold SendFrame.leadBits
  by_cases h : f.kind = .sync ∨ f.kind = .segment
  · rw [if_pos h, SendFrame.isTransaction_eq_false.mpr h]; rfl
  · rw [if_neg h, if_pos (by simpa using mt SendFrame.isTransaction_eq_false.mp h)]; rfl

/-- The byte times of a master frame, with its closing symbol by its kind. -/
theorem SendFrame.byteTimes_eq (f : SendFrame) :
    f.byteTimes = 0x000#10 :: (f.dataBytes.map (fun b : Byte => 0x200#10 ||| (b.zeroExtend 10 <<< 1))
      ++ [if f.kind = .write ∨ f.kind = .read ∨ f.kind = .poll ∨ f.kind = .join then 0x01E#10 else 0x1FE#10]) := by
  simp only [← FrameKind.closesWithTurn_iff]
  rfl

/-- Settles O47: the two policies at the first mismatch, and the comparisons that do nothing. -/
theorem contention : Obligations.Contention := by
  unfold Obligations.Contention
  refine ⟨fun f lead bit hlead => ?_, fun s bit high hheld => ⟨State.two_halfBits, ?_, ?_, ?_⟩⟩
  · rw [← f.leadBits_eq] at hlead
    subst hlead
    exact ⟨f.byteTimes_eq, fun h => if_pos h, fun h => if_neg (Nat.not_lt.mpr h)⟩
  · intro f m u hact hm hnow hc hd hu
    rw [exec_contention hheld hact hm.symm hnow hc hd]
    have hact' : (s.upTo m).line.activity = .sending f := hact
    have hnow' : (s.upTo m).now = m := Nat.max_eq_right hnow
    have hcount := (s.upTo m).countContention_eq f
    rw [← hu] at hcount
    have hunow : u.now = m := by rw [hu, State.occur_now, hnow']
    refine ⟨fun a hend hf hp hsync hseg ha => ?_, fun hend hf hp hk => ?_, fun hend hf hp => ?_, fun hf => ?_⟩
    · have htxn : f.isTransaction = true := by simp [SendFrame.isTransaction, hsync, hseg]
      have ha' : ((s.upTo m).countContention f).attempt = some a := by simpa using ha
      rw [State.contend_yield hact' (by rwa [hnow']) hf hp, State.abortFrame_transaction htxn ha', hcount]
      unfold State.goReclaim
      rw [State.setLine_now, hunow]; rfl
    · rw [State.contend_yield hact' (by rwa [hnow']) hf hp,
        State.abortFrame_round (SendFrame.isTransaction_eq_false.mpr hk), hcount, State.setLine_now, hunow]; rfl
    · rw [State.contend_persist hact' (by rwa [hnow']) hf hp, State.countContention_eq, State.setActivity,
        State.occur_setLine, hu]; rfl
    · rw [State.contend_again hact' hf]
  · intro f hact hd
    refine exec_contention_none hheld fun m hm => ?_
    obtain ⟨g, hg, hdg, hnow, rfl⟩ := State.mismatchAt_eq_some.mp hm
    obtain rfl : f = g := by simpa [hact] using hg
    rcases hd with hd | hd | hd
    · cases high <;> simp [hd] at hdg
    · simp [hd] at hdg
    · exact absurd hnow (Nat.not_le.mpr hd)
  · intro hact
    refine exec_contention_none hheld fun m hm => ?_
    obtain ⟨g, hg, -⟩ := State.mismatchAt_eq_some.mp hm
    exact hact (by rw [hg]; rfl)

/-! ### The offered line -/

/-- GUARD_END at the end of the guard. -/
theorem exec_guardEnd {s : State} {a : Attempt} {g : Time} (hheld : s.held = false) (ha : s.attempt = some a)
    (hact : s.line.activity = .offered g) (hp : a.phase = .guard) (hc : s.comes g) :
    exec .guardEnd s = .next ((s.upTo g).setPhase a (.waiting (max s.now g + s.bits a.timeout))) := by
  have hdue : s.dueAt .guardEnd = some g := by simp [State.dueAt, hact, State.phase, ha, hp]
  show Host.Outcome.next _ = _
  rw [State.whenFree_of_free hheld, hdue, State.atMoment_comes hc]
  simp only [State.guardEnded, State.upTo_attempt, ha, hp, if_true]
  rfl

/-- Outside GUARD no guard ends. -/
theorem exec_guardEnd_none {s : State} {a : Attempt} (hheld : s.held = false) (ha : s.attempt = some a)
    (hp : a.phase ≠ .guard) : exec .guardEnd s = .next s := by
  have hdue : s.dueAt .guardEnd = none := by
    simp only [State.dueAt]
    split
    · next hg => exact absurd (by simpa [State.phase, ha] using hg) hp
    · rfl
  show Host.Outcome.next _ = _
  rw [State.whenFree_of_free hheld, hdue, State.atMoment_none]

/-- Ten low bit times after a falling edge are a START. -/
theorem exec_stationStart {s : State} {low : Nat} (hheld : s.held = false) (hlow : 10 ≤ low) :
    exec (.stationStart low) s = .next s.stationStart := by
  show Host.Outcome.next _ = _
  rw [State.whenFree_of_free hheld, if_pos hlow]

/-- Fewer than ten are none. -/
theorem exec_stationStart_short {s : State} {low : Nat} (hheld : s.held = false) (hlow : low < 10) :
    exec (.stationStart low) s = .next s := by
  show Host.Outcome.next _ = _
  rw [State.whenFree_of_free hheld, if_neg (Nat.not_le.mpr hlow)]

/-- Where a START changes nothing, no number of low bit times does. -/
theorem exec_stationStart_ignored {s : State} (low : Nat) (hheld : s.held = false) (h : s.stationStart = s) :
    exec (.stationStart low) s = .next s := by
  by_cases hlow : 10 ≤ low
  · rw [exec_stationStart hheld hlow, h]
  · exact exec_stationStart_short hheld (Nat.not_le.mp hlow)

theorem State.stationStart_offered {s : State} {a : Attempt} {g : Time} (ha : s.attempt = some a)
    (hact : s.line.activity = .offered g) :
    s.stationStart
      = (s.setActivity (.listening (.inFrame s.now))).setPhase a (.receiving (s.now + s.bits a.allowance)) := by
  simp only [State.stationStart, hact, ha]

theorem State.stationStart_noFrame {s : State} {since : Time} (hact : s.line.activity = .listening (.noFrame since)) :
    s.stationStart = s.setActivity (.listening (.inFrame s.now)) := by
  simp only [State.stationStart, hact]

theorem State.stationStart_inFrame {s : State} {start : Time} (hact : s.line.activity = .listening (.inFrame start)) :
    s.stationStart = s := by
  simp only [State.stationStart, hact]

/-- The receiver is off in the other line states (R16). -/
theorem State.stationStart_off {s : State} (ho : s.line.activity.state ≠ .offered)
    (hl : s.line.activity.state ≠ .listening) : s.stationStart = s := by
  unfold State.stationStart
  split
  · next h _ => exact absurd (by rw [h]; rfl) ho
  · next h => exact absurd (by rw [h]; rfl) hl
  · rfl

/-- RESPONSE_TIMER_EXPIRY at the response timer's moment. -/
theorem exec_responseTimerExpiry {s : State} {a : Attempt} {x : Time} (hheld : s.held = false)
    (ha : s.attempt = some a) (hp : a.phase = .waiting x) (hc : s.comes x) :
    exec .responseTimerExpiry s = .next ((s.upTo x).goReclaim.setAttempt
      (some { a with phase := .reclaiming, provisional := some .noResponse })) := by
  have hdue : s.dueAt .responseTimer = some x := by simp [State.dueAt, State.phase, ha, hp]
  show Host.Outcome.next _ = _
  rw [State.whenFree_of_free hheld, hdue, State.atMoment_comes hc]
  simp only [State.responseExpired, State.upTo_attempt, ha]

/-- Settles O48: the guard's end, the START in each line state, and the response timer. -/
theorem theOfferedLine : Obligations.TheOfferedLine := by
  unfold Obligations.TheOfferedLine
  intro s a hheld ha
  refine ⟨fun g hact hp hc => exec_guardEnd hheld ha hact hp hc, exec_guardEnd_none hheld ha,
    fun g low hact hlow => ?_, fun since low hact hlow => ?_, fun low => exec_stationStart_short hheld,
    fun start low hact => ?_, fun low ho hl => ?_, fun x hp hc => exec_responseTimerExpiry hheld ha hp hc⟩
  · rw [exec_stationStart hheld hlow, State.stationStart_offered ha hact]; rfl
  · rw [exec_stationStart hheld hlow, State.stationStart_noFrame hact]; rfl
  · exact exec_stationStart_ignored low hheld (State.stationStart_inFrame hact)
  · exact exec_stationStart_ignored low hheld (State.stationStart_off ho hl)

end Sys2Proof.Machine
end

section
namespace Sys2Proof.Machine

/-! ## Delivered frames and the talk limit (O50) -/

/-! ### The judgements of the Turn Controller -/

/-- A first frame that fails a step of R98: its outcome, and IGNORING unless it closed the turn. -/
theorem Attempt.takeFirst_failed {a : Attempt} {p : HeaderPolicy} {limit : Time} {f : DecodedFrame} {o : TxnOutcome}
    {fl : TxnFlags} (h : judgeFrame p a a.kind.allows f = (some o, fl)) :
    a.takeFirst p limit f = { a with
      first := some { frame := f, failure := some o }, flags := fl, provisional := some o,
      phase := if f.closing = .turn then .reclaiming else .ignoring limit } := by
  simp only [Attempt.takeFirst, h, phaseAfter]

/-- A first frame that passes all steps: the turn goes on when it carries a mark. -/
theorem Attempt.takeFirst_passed {a : Attempt} {p : HeaderPolicy} {limit : Time} {f : DecodedFrame}
    {fl : TxnFlags} (h : judgeFrame p a a.kind.allows f = (none, fl)) :
    a.takeFirst p limit f = { a with
      first := some { frame := f, failure := none }, flags := fl, provisional := some (a.passedOutcome f),
      word := if f.isErrorReport = true then some f.header.length else none,
      phase := if f.header.mark = true then .trailer limit else .reclaiming } := by
  simp only [Attempt.takeFirst, h]

theorem DecodedFrame.isErrorReport_iff {f : DecodedFrame} : f.isErrorReport = true ↔ f.header.kind = 0x1E :=
  beq_iff_eq

/-- The echo fails when a seq was sent and another one came back (R105). -/
theorem Attempt.echoMatches_eq_false {a : Attempt} {f : DecodedFrame} :
    a.echoMatches f = false ↔ ∃ b, a.sentSeq = some b ∧ b ≠ f.header.seq := by
  unfold Attempt.echoMatches
  cases a.sentSeq with
  | none => simp
  | some b =>
    simp only [beq_eq_false_iff_ne, Option.some.injEq, exists_eq_left']
    exact ne_comm

/-- A trailer that passes all steps and echoes the first frame's seq. -/
theorem Attempt.takeTrailer_passed {a : Attempt} {p : HeaderPolicy} {limit : Time} {f : DecodedFrame} {fl : TxnFlags}
    {j : Judged} (hj : a.first = some j) (h : judgeFrame p a (fun k => k == .errorReport) f = (none, fl))
    (he : f.header.seq = j.frame.header.seq) :
    a.takeTrailer p limit f = { a with
      trailer := some { frame := f, failure := none }, flags := fl,
      provisional := if a.provisional = some .done then some .doneNoted else a.provisional,
      word := some f.header.length, phase := .reclaiming } := by
  simp [Attempt.takeTrailer, h, Attempt.trailerEcho, hj, he]

/-- A trailer that fails a step, or whose seq is not the first frame's (R100). -/
theorem Attempt.takeTrailer_failed {a : Attempt} {p : HeaderPolicy} {limit : Time} {f : DecodedFrame} {fl : TxnFlags}
    {j : Judged} {v : Option TxnOutcome} {o : TxnOutcome} (hj : a.first = some j)
    (h : judgeFrame p a (fun k => k == .errorReport) f = (v, fl))
    (hv : v = some o ∨ (v = none ∧ f.header.seq ≠ j.frame.header.seq ∧ o = .replyCorrupt)) :
    a.takeTrailer p limit f = { a with
      trailer := some { frame := f, failure := some o }, flags := { fl with trailerBad := true },
      phase := if f.closing = .turn then .reclaiming else .ignoring limit } := by
  rcases hv with rfl | ⟨rfl, hseq, rfl⟩
  · simp [Attempt.takeTrailer, h, phaseAfter]
  · simp [Attempt.takeTrailer, h, Attempt.trailerEcho, hj, hseq, phaseAfter]

/-! ### Delivery -/

/-- Time that has come up to a moment has come up to the later of that moment and the present. -/
theorem State.upTo_max (s : State) (d : Time) : s.upTo (max s.now d) = s.upTo d := by
  unfold State.upTo
  rw [Nat.max_eq_right (Nat.le_max_left s.now d)]

/-- The delivery of a frame: the attempt takes it, and the line goes on by the frame's closing. -/
theorem State.deliver_eq {s : State} {a : Attempt} (ha : s.attempt = some a) (bytes : Bytes) (e : FrameEnd) :
    s.deliver bytes e
      = (s.setActivity (
          if (decodeStationFrame s.line.config.crcCheck bytes e).closing = .turn then
            .reclaim (s.now + s.bits s.line.config.turnGuard)
          else .listening (if e = .start then .inFrame (s.now - s.bits 10) else .noFrame s.now))).setAttempt
        (some (a.takeFrame s.line.config.headerPolicy (decodeStationFrame s.line.config.crcCheck bytes e))) := by
  simp only [State.deliver, ha]
  split
  · rfl
  · cases e <;> rfl

/-- DECODED_FRAME at the end of the frame in progress, or now when that end has gone by. -/
theorem exec_decodedFrame {s : State} {ts : List ByteTime} {bytes : Bytes} {e : FrameEnd} {start : Time}
    (hheld : s.held = false) (hact : s.line.activity = .listening (.inFrame start))
    (hts : collectBytes ts = (bytes, e)) (he : e ≠ .unfinished)
    (hc : s.comes (start + s.bits (10 * (bytes.length + 2)))) :
    exec (.decodedFrame ts) s
      = .next ((s.upTo (start + s.bits (10 * (bytes.length + 2)))).deliver bytes e) := by
  have hend : s.frameEndAt (bytes.length + 1) = some (start + s.bits (10 * (bytes.length + 2))) := by
    simp only [State.frameEndAt, hact]
  show Host.Outcome.next _ = _
  rw [State.whenFree_of_free hheld, hts]
  dsimp only
  rw [if_neg he, hend, State.atMoment_comes hc]

/-- With no frame in progress none can end. -/
theorem exec_decodedFrame_noFrame {s : State} {since : Time} (ts : List ByteTime) (hheld : s.held = false)
    (hact : s.line.activity = .listening (.noFrame since)) : exec (.decodedFrame ts) s = .next s := by
  have hend : ∀ n, s.frameEndAt n = none := fun n => by simp only [State.frameEndAt, hact]
  show Host.Outcome.next _ = _
  rw [State.whenFree_of_free hheld]
  dsimp only
  rw [hend, State.atMoment_none, ite_self]

/-! ### The talk limit -/

/-- TALK_LIMIT_EXPIRY in a phase in which the limit runs. -/
theorem exec_talkLimitExpiry {s : State} {a : Attempt} {limit : Time} (hheld : s.held = false) (ha : s.attempt = some a)
    (hp : a.phase = .receiving limit ∨ a.phase = .trailer limit ∨ a.phase = .ignoring limit) (hc : s.comes limit) :
    exec .talkLimitExpiry s = .next ((s.upTo limit).goReclaim.setAttempt (some a.cutOff)) := by
  have hdue : s.dueAt .talkLimit = some limit := by
    rcases hp with hp | hp | hp <;> simp [State.dueAt, State.phase, ha, hp]
  show Host.Outcome.next _ = _
  rw [State.whenFree_of_free hheld, hdue, State.atMoment_comes hc]
  simp only [State.talkExpired, State.upTo_attempt, ha]

/-- Settles O50: the frame's delivery is one equation of the state, in which the attempt takes the frame by its phase. -/
theorem framesOfTheTurn : Obligations.FramesOfTheTurn := by
  unfold Obligations.FramesOfTheTurn
  intro s a hheld ha
  refine ⟨?_, fun ts since hact => exec_decodedFrame_noFrame ts hheld hact, ?_⟩
  · intro ts bytes e start m f v fl after limit hact hts he hc hm hf hafter
    have hdeliver : exec (.decodedFrame ts) s = .next (after (a.takeFrame s.line.config.headerPolicy f)) := by
      rw [exec_decodedFrame hheld hact hts he hc,
        State.deliver_eq (s := s.upTo (start + s.bits (10 * (bytes.length + 2)))) ha, hafter, hm, State.upTo_max, hf]
      rfl
    rw [hdeliver]
    refine ⟨fun hp hj => ⟨fun o ho => ?_, fun hv => ?_⟩, fun j hp hfirst hj => ⟨fun hv hseq => ?_, fun o ho => ?_⟩,
      fun hp => ?_⟩
    · rw [Attempt.takeFrame, hp]
      dsimp only
      rw [Attempt.takeFirst_failed (hj.symm.trans (by rw [ho]))]
    · rw [Attempt.takeFrame, hp]
      dsimp only
      rw [Attempt.takeFirst_passed (hj.symm.trans (by rw [hv]))]
      simp only [Attempt.passedOutcome, DecodedFrame.isErrorReport_iff, Attempt.echoMatches_eq_false]
    · rw [Attempt.takeFrame, hp]
      dsimp only
      rw [Attempt.takeTrailer_passed hfirst (hj.symm.trans (by rw [hv])) hseq]
    · rw [Attempt.takeFrame, hp]
      dsimp only
      rw [Attempt.takeTrailer_failed hfirst hj.symm ho]
    · rw [Attempt.takeFrame, hp]
      rfl
  · intro limit u hc hu
    refine ⟨fun hp => ?_, fun hp => ?_, fun hp => ?_⟩
    · rw [exec_talkLimitExpiry hheld ha (Or.inl hp) hc, Attempt.cutOff, hp, hu]; rfl
    · rw [exec_talkLimitExpiry hheld ha (Or.inr (Or.inl hp)) hc, Attempt.cutOff, hp, hu]; rfl
    · rw [exec_talkLimitExpiry hheld ha (Or.inr (Or.inr hp)) hc, Attempt.cutOff, hp, hu]; rfl

end Sys2Proof.Machine
end

section
namespace Sys2Proof.Machine

/-! ## The line's codes (O53) -/

/-! ### Exclusive-or over positions is linear -/

theorem foldl_xor_start (w : BitVec 32) (ps : List Nat) (a : Bool) :
    ps.foldl (fun a p => a ^^ w.getLsbD p) a = (a ^^ xorAt w ps) := by
  unfold xorAt
  induction ps generalizing a with
  | nil => simp
  | cons p rest ih => rw [List.foldl_cons, List.foldl_cons, ih, ih (false ^^ w.getLsbD p), Bool.false_xor, Bool.xor_assoc]

@[simp] theorem xorAt_nil (w : BitVec 32) : xorAt w [] = false := rfl

@[simp] theorem xorAt_cons (w : BitVec 32) (p : Nat) (ps : List Nat) :
    xorAt w (p :: ps) = (w.getLsbD p ^^ xorAt w ps) := by
  rw [xorAt, List.foldl_cons, foldl_xor_start, Bool.false_xor]

theorem xorAt_xor (v w : BitVec 32) (ps : List Nat) : xorAt (v ^^^ w) ps = (xorAt v ps ^^ xorAt w ps) := by
  induction ps with
  | nil => rfl
  | cons p rest ih =>
    simp only [xorAt_cons, ih, BitVec.getLsbD_xor, Bool.xor_assoc, Bool.xor_left_comm]

theorem xorAt_zero (ps : List Nat) : xorAt 0#32 ps = false := by
  induction ps with
  | nil => rfl
  | cons p rest ih => rw [xorAt_cons, ih, BitVec.getLsbD_zero]; rfl

/-! ### Placed bits -/

theorem getLsbD_placeBit (w : BitVec 32) (p : Nat) (b : Bool) {q : Nat} (hq : q < 32) :
    (placeBit w p b).getLsbD q = (w.getLsbD q || (decide (q = p) && b)) := by
  cases b with
  | false => simp [placeBit]
  | true => simp [placeBit, hq]

/-- A bit placed at a position that was clear is an exclusive-or. -/
theorem placeBit_eq_xor {w : BitVec 32} {p : Nat} (h : w.getLsbD p = false) (b : Bool) :
    placeBit w p b = w ^^^ (if b = true then BitVec.twoPow 32 p else 0#32) := by
  refine BitVec.eq_of_getLsbD_eq fun q hq => ?_
  rw [getLsbD_placeBit w p b hq, BitVec.getLsbD_xor]
  cases b with
  | false => simp
  | true =>
    by_cases hqp : q = p
    · rw [hqp, h, if_pos rfl, BitVec.getLsbD_twoPow]
      simp [← hqp, hq]
    · simp [hqp, Ne.symm hqp, BitVec.getLsbD_twoPow]

/-- What a placed bit adds to an exclusive-or over positions. -/
theorem xorAt_placeBit {w : BitVec 32} {p : Nat} (h : w.getLsbD p = false) (b : Bool) (ps : List Nat) :
    xorAt (placeBit w p b) ps = (xorAt w ps ^^ (b && xorAt (BitVec.twoPow 32 p) ps)) := by
  rw [placeBit_eq_xor h, xorAt_xor]
  cases b with
  | true => rfl
  | false => rw [if_neg Bool.false_ne_true, xorAt_zero, Bool.false_and]

/-! ### The content bits and their positions -/

theorem contentPositions_nodup : contentPositions.Nodup := by decide

theorem lt_of_mem_contentPositions {p : Nat} (h : p ∈ contentPositions) : p < 32 := by
  revert h p
  decide

theorem getLsbD_foldl_placeBit (c : BitVec 26) (l : List (Nat × Nat)) (w : BitVec 32) {q : Nat} (hq : q < 32) :
    (l.foldl (fun w pi => placeBit w pi.1 (c.getLsbD pi.2)) w).getLsbD q
      = (w.getLsbD q || l.any fun pi => decide (q = pi.1) && c.getLsbD pi.2) := by
  induction l generalizing w with
  | nil => simp
  | cons pi rest ih => rw [List.foldl_cons, ih, getLsbD_placeBit _ _ _ hq, List.any_cons, Bool.or_assoc]

theorem getLsbD_foldl_twoPow (w : BitVec 32) (l : List (Nat × Nat)) (c : BitVec 26) {i : Nat} (hi : i < 26) :
    (l.foldl (fun c pi => if w.getLsbD pi.1 then c ||| BitVec.twoPow 26 pi.2 else c) c).getLsbD i
      = (c.getLsbD i || l.any fun pi => decide (i = pi.2) && w.getLsbD pi.1) := by
  induction l generalizing c with
  | nil => simp
  | cons pi rest ih =>
    rw [List.foldl_cons, ih, List.any_cons, ← Bool.or_assoc]
    cases w.getLsbD pi.1 <;> simp [hi]

/-- A content bit stands at its position (R8, R181). -/
theorem getLsbD_placeContent (c : BitVec 26) {i p : Nat} (h : contentPositions[i]? = some p) :
    (placeContent c).getLsbD p = c.getLsbD i := by
  have hp : p < 32 := lt_of_mem_contentPositions (List.mem_of_getElem? h)
  rw [placeContent, getLsbD_foldl_placeBit c _ _ hp, Bool.eq_iff_iff]
  simp only [BitVec.ofNat_eq_ofNat, BitVec.getLsbD_zero, Bool.false_or, List.any_eq_true, Bool.and_eq_true,
    decide_eq_true_eq, Prod.exists, List.mk_mem_zipIdx_iff_getElem?]
  constructor
  · rintro ⟨q, j, hj, rfl, hc⟩
    rwa [(List.getElem?_inj (List.getElem?_eq_some_iff.mp h).1 contentPositions_nodup).mp (h.trans hj.symm)]
  · exact fun hc => ⟨p, i, h, rfl, hc⟩

/-- The positions of the check bits are clear. -/
theorem getLsbD_placeContent_check (c : BitVec 26) {p : Nat} (h : p ∉ contentPositions) :
    (placeContent c).getLsbD p = false := by
  by_cases hp : p < 32
  · rw [placeContent, getLsbD_foldl_placeBit c _ _ hp, BitVec.ofNat_eq_ofNat, BitVec.getLsbD_zero, Bool.false_or,
      List.any_eq_false]
    rintro ⟨q, j⟩ hj
    have hq : q ∈ contentPositions := List.mem_of_getElem? (List.mk_mem_zipIdx_iff_getElem?.mp hj)
    have hne : p ≠ q := fun e => h (e ▸ hq)
    simp [hne]
  · exact BitVec.getLsbD_of_ge _ _ (Nat.not_lt.mp hp)

/-- The content of a code word is read off the content positions. -/
theorem getLsbD_contentOf (w : BitVec 32) {i p : Nat} (h : contentPositions[i]? = some p) :
    (contentOf w).getLsbD i = w.getLsbD p := by
  have hi : i < 26 := (List.getElem?_eq_some_iff.mp h).1
  rw [contentOf, getLsbD_foldl_twoPow w _ _ hi, Bool.eq_iff_iff]
  simp only [BitVec.ofNat_eq_ofNat, BitVec.getLsbD_zero, Bool.false_or, List.any_eq_true, Bool.and_eq_true,
    decide_eq_true_eq, Prod.exists, List.mk_mem_zipIdx_iff_getElem?]
  constructor
  · rintro ⟨q, j, hj, rfl, hw⟩
    rwa [Option.some.inj (h.symm.trans hj)]
  · exact fun hw => ⟨p, i, h, rfl, hw⟩

/-- A word that has the content bits at their positions has this content. -/
theorem contentOf_eq {w : BitVec 32} {c : BitVec 26}
    (h : ∀ p ∈ contentPositions, w.getLsbD p = (placeContent c).getLsbD p) : contentOf w = c := by
  refine BitVec.eq_of_getLsbD_eq fun i hi => ?_
  have hp : contentPositions[i]? = some contentPositions[i] := List.getElem?_eq_getElem hi
  rw [getLsbD_contentOf w hp, h _ (List.getElem_mem hi), getLsbD_placeContent c hp]

/-- The content bits, field by field from the kind up. -/
theorem Header.getLsbD_content (h : Header) (i : Nat) :
    h.content.getLsbD i
      = if i < 5 then h.kind.getLsbD i
        else if i - 5 < 1 then (BitVec.ofBool h.seq).getLsbD (i - 5)
        else if i - 6 < 1 then (BitVec.ofBool h.turn).getLsbD (i - 6)
        else if i - 7 < 1 then (BitVec.ofBool h.mark).getLsbD (i - 7)
        else if i - 8 < 4 then h.station.getLsbD (i - 8)
        else if i - 12 < 2 then h.channel.getLsbD (i - 12)
        else h.length.getLsbD (i - 14) := by
  unfold Header.content
  change BitVec.getLsbD (w := 12 + 2 + 4 + 1 + 1 + 1 + 5) _ i = _
  simp only [BitVec.getLsbD_append, Nat.sub_sub]

/-- The seven fields are read back from the content bits (R181). -/
theorem Header.ofContent_content (h : Header) : Header.ofContent h.content = h := by
  obtain ⟨kind, seq, turn, mark, station, channel, length⟩ := h
  simp only [Header.ofContent, Header.mk.injEq]
  refine ⟨?_, ?_, ?_, ?_, ?_, ?_, ?_⟩
  case refine_2 | refine_3 | refine_4 => rw [Header.getLsbD_content]; simp
  all_goals
    refine BitVec.eq_of_getLsbD_eq fun i hi => ?_
    rw [BitVec.getLsbD_extractLsb', Header.getLsbD_content]
    simp (disch := omega) only [if_true, if_neg, hi, decide_true, Bool.true_and, Nat.zero_add,
      Nat.add_sub_cancel_left]

/-! ### The check bits of a code word -/

/-- A position counts in the check sum of every bit of its index (R8). -/
theorem xorAt_twoPow_coveredBy {k : Nat} (hk : k < 5) {p : Nat} (hp : p < 32) :
    xorAt (BitVec.twoPow 32 p) (coveredBy k) = p.testBit k := by
  revert p
  revert k
  decide +kernel

theorem getLsbD_placeBit_ne (w : BitVec 32) {p q : Nat} (b : Bool) (h : q ≠ p) :
    (placeBit w p b).getLsbD q = w.getLsbD q := by
  unfold placeBit
  split
  · rw [BitVec.getLsbD_or, BitVec.getLsbD_twoPow]
    simp [Ne.symm h]
  · rfl

/-- The five check positions are clear. -/
def checksClear (w : BitVec 32) : Prop :=
  w.getLsbD 1 = false ∧ w.getLsbD 2 = false ∧ w.getLsbD 4 = false ∧ w.getLsbD 8 = false ∧ w.getLsbD 16 = false

/-- What the check bits add to an exclusive-or over positions. -/
theorem xorAt_placeChecks {w : BitVec 32} (h : checksClear w) (ps : List Nat) :
    xorAt (placeChecks w) ps
      = (xorAt w ps ^^ (xorAt w (coveredBy 0) && xorAt (BitVec.twoPow 32 1) ps)
          ^^ (xorAt w (coveredBy 1) && xorAt (BitVec.twoPow 32 2) ps)
          ^^ (xorAt w (coveredBy 2) && xorAt (BitVec.twoPow 32 4) ps)
          ^^ (xorAt w (coveredBy 3) && xorAt (BitVec.twoPow 32 8) ps)
          ^^ (xorAt w (coveredBy 4) && xorAt (BitVec.twoPow 32 16) ps)) := by
  obtain ⟨h1, h2, h4, h8, h16⟩ := h
  unfold placeChecks
  rw [xorAt_placeBit, xorAt_placeBit, xorAt_placeBit, xorAt_placeBit, xorAt_placeBit h1]
  all_goals simp (disch := decide) only [getLsbD_placeBit_ne, h2, h4, h8, h16]

/-- With its check bits placed, a word has even parity over every covered set (R8). -/
theorem xorAt_placeChecks_coveredBy {w : BitVec 32} (h : checksClear w) {k : Nat} (hk : k < 5) :
    xorAt (placeChecks w) (coveredBy k) = false := by
  rw [xorAt_placeChecks h]
  simp only [xorAt_twoPow_coveredBy hk (by decide : 1 < 32), xorAt_twoPow_coveredBy hk (by decide : 2 < 32),
    xorAt_twoPow_coveredBy hk (by decide : 4 < 32), xorAt_twoPow_coveredBy hk (by decide : 8 < 32),
    xorAt_twoPow_coveredBy hk (by decide : 16 < 32)]
  interval_cases k <;> simp [Nat.testBit]

theorem getLsbD_placeChecks (w : BitVec 32) {q : Nat} (h : q ∉ [1, 2, 4, 8, 16]) :
    (placeChecks w).getLsbD q = w.getLsbD q := by
  simp only [List.mem_cons, List.not_mem_nil, or_false, not_or] at h
  obtain ⟨h1, h2, h4, h8, h16⟩ := h
  rw [placeChecks, getLsbD_placeBit_ne _ _ h16, getLsbD_placeBit_ne _ _ h8, getLsbD_placeBit_ne _ _ h4,
    getLsbD_placeBit_ne _ _ h2, getLsbD_placeBit_ne _ _ h1]

theorem checksClear_placeContent (c : BitVec 26) : checksClear (placeContent c) :=
  ⟨getLsbD_placeContent_check c (by decide), getLsbD_placeContent_check c (by decide),
    getLsbD_placeContent_check c (by decide), getLsbD_placeContent_check c (by decide),
    getLsbD_placeContent_check c (by decide)⟩

/-- Position 0 is clear until the overall parity is placed. -/
theorem getLsbD_placeChecks_zero (c : BitVec 26) : (placeChecks (placeContent c)).getLsbD 0 = false := by
  rw [getLsbD_placeChecks _ (by decide), getLsbD_placeContent_check c (by decide)]

/-- The content positions of a code word carry the content bits. -/
theorem getLsbD_codeWord (h : Header) {p : Nat} (hp : p ∈ contentPositions) :
    h.codeWord.getLsbD p = (placeContent h.content).getLsbD p := by
  have hpos : p ≠ 0 ∧ p ∉ [1, 2, 4, 8, 16] := by
    revert hp p
    decide
  rw [Header.codeWord, placeParity, getLsbD_placeBit_ne _ _ hpos.1, getLsbD_placeChecks _ hpos.2]

/-- The check sums of a code word are even (R8). -/
theorem xorAt_codeWord_coveredBy (h : Header) {k : Nat} (hk : k < 5) : xorAt h.codeWord (coveredBy k) = false := by
  rw [Header.codeWord, placeParity, xorAt_placeBit (getLsbD_placeChecks_zero _),
    xorAt_placeChecks_coveredBy (checksClear_placeContent _) hk, xorAt_twoPow_coveredBy hk (by decide), Nat.zero_testBit,
    Bool.and_false, Bool.xor_false]

/-- The overall parity of a code word is even (R8, R181). -/
theorem xorAt_codeWord_all (h : Header) : xorAt h.codeWord (List.range 32) = false := by
  have hall : List.range 32 = 0 :: List.range' 1 31 := by decide
  have hone : xorAt (BitVec.twoPow 32 0) (List.range 32) = true := by decide
  rw [Header.codeWord, placeParity, xorAt_placeBit (getLsbD_placeChecks_zero _), hone, hall, xorAt_cons,
    getLsbD_placeChecks_zero, Bool.false_xor, Bool.and_true, Bool.xor_self]

/-! ### Errors -/

/-- The five check sums of an error are those of the code word with the error in it: the syndrome is the error's. -/
theorem syndrome_codeWord_xor (h : Header) (e : BitVec 32) : syndrome (h.codeWord ^^^ e) = syndrome e := by
  simp only [syndrome, xorAt_xor, xorAt_codeWord_coveredBy h (by decide : 0 < 5),
    xorAt_codeWord_coveredBy h (by decide : 1 < 5), xorAt_codeWord_coveredBy h (by decide : 2 < 5),
    xorAt_codeWord_coveredBy h (by decide : 3 < 5), xorAt_codeWord_coveredBy h (by decide : 4 < 5), Bool.false_xor]

theorem parityGood_codeWord_xor (h : Header) (e : BitVec 32) : parityGood (h.codeWord ^^^ e) = parityGood e := by
  rw [parityGood, parityGood, xorAt_xor, xorAt_codeWord_all, Bool.false_xor]

theorem contentOf_codeWord (h : Header) : Header.ofContent (contentOf h.codeWord) = h := by
  rw [contentOf_eq fun p hp => getLsbD_codeWord h hp, Header.ofContent_content]

/-- A single error names its own position (R9). -/
theorem syndrome_twoPow {p : Nat} (hp : p < 32) : syndrome (BitVec.twoPow 32 p) = p := by
  revert p
  decide +kernel

theorem parityGood_twoPow {p : Nat} (hp : p < 32) : parityGood (BitVec.twoPow 32 p) = false := by
  revert p
  decide +kernel

/-- Two words of one syndrome: that of their exclusive-or is zero. -/
theorem syndrome_eq_of_xor {v w : BitVec 32} (h : syndrome (v ^^^ w) = 0) : syndrome v = syndrome w := by
  have hweight : ∀ (b : Bool) (i : Nat), bitWeight b i = 0 → b = false := fun b i hb => by
    cases b
    · rfl
    · exact absurd hb (by simp [bitWeight])
  simp only [syndrome, xorAt_xor, Nat.add_eq_zero_iff] at h
  obtain ⟨⟨⟨⟨h0, h1⟩, h2⟩, h3⟩, h4⟩ := h
  have heq : ∀ {a b : Bool} {i : Nat}, bitWeight (a ^^ b) i = 0 → a = b := fun {a b i} hb =>
    by simpa using hweight _ i hb
  rw [syndrome, syndrome, heq h0, heq h1, heq h2, heq h3, heq h4]

theorem classifyHeader_codeWord (h : Header) : classifyHeader h.codeWord = (.clean, h) := by
  have hs := syndrome_codeWord_xor h 0
  have hp := parityGood_codeWord_xor h 0
  rw [BitVec.ofNat_eq_ofNat, BitVec.xor_zero] at hs hp
  have hs0 : syndrome 0#32 = 0 := by decide
  have hp0 : parityGood 0#32 = true := by decide
  rw [classifyHeader, hp, hp0, if_pos rfl, hs, hs0, if_pos rfl, contentOf_codeWord]

theorem classifyHeader_single (h : Header) {p : Nat} (hp : p < 32) :
    classifyHeader (h.codeWord ^^^ BitVec.twoPow 32 p) = (.corrected, h) := by
  rw [classifyHeader, parityGood_codeWord_xor, parityGood_twoPow hp, if_neg Bool.false_ne_true, syndrome_codeWord_xor,
    syndrome_twoPow hp, BitVec.xor_assoc, BitVec.xor_self, BitVec.xor_zero, contentOf_codeWord]

theorem parityGood_xor (v w : BitVec 32) : parityGood (v ^^^ w) = (parityGood v == parityGood w) := by
  unfold parityGood
  rw [xorAt_xor]
  cases xorAt v (List.range 32) <;> cases xorAt w (List.range 32) <;> rfl

theorem classifyHeader_double (h : Header) {p q : Nat} (hp : p < 32) (hq : q < 32) (hpq : p ≠ q) :
    (classifyHeader (h.codeWord ^^^ BitVec.twoPow 32 p ^^^ BitVec.twoPow 32 q)).1 = .uncorrectable := by
  have hsyn : syndrome (BitVec.twoPow 32 p ^^^ BitVec.twoPow 32 q) ≠ 0 := fun hz => by
    have := syndrome_eq_of_xor hz
    rw [syndrome_twoPow hp, syndrome_twoPow hq] at this
    exact hpq this
  rw [classifyHeader, BitVec.xor_assoc, parityGood_codeWord_xor, parityGood_xor, parityGood_twoPow hp,
    parityGood_twoPow hq, syndrome_codeWord_xor, if_neg hsyn]
  rfl

/-! ### A station frame, byte by byte -/

/-- A data byte is decoded as itself (R1, R2). -/
theorem decodeByteTime_dataByteTime (b : Byte) : decodeByteTime (dataByteTime b) = .data b := by
  have hstop : (dataByteTime b).getLsbD 9 = true := by simp [dataByteTime]
  have hstart : (dataByteTime b).getLsbD 0 = false := by simp [dataByteTime]
  have hdata : (dataByteTime b).extractLsb' 1 8 = b := by
    refine BitVec.eq_of_getLsbD_eq fun i hi => ?_
    have hi' : 1 + i < 10 := by omega
    have hclear : (0x200#10)[1 + i] = false := by
      rw [← BitVec.getLsbD_eq_getElem]
      interval_cases i <;> rfl
    simp [dataByteTime, hi, hi', hclear]
  rw [decodeByteTime, if_pos ⟨hstop, hstart⟩, hdata]

/-- Data bytes come first, and what follows them ends the frame (R11). -/
theorem collectBytes_data (bytes : Bytes) (ts : List ByteTime) :
    collectBytes (bytes.map dataByteTime ++ ts) = (bytes ++ (collectBytes ts).1, (collectBytes ts).2) := by
  induction bytes with
  | nil => rfl
  | cons b rest ih =>
    rw [List.map_cons, List.cons_append, collectBytes, decodeByteTime_dataByteTime]
    simp only [ih, List.cons_append]

/-- The four header bytes give back the code word (R181). -/
theorem codeWordOf_headerBytes (w : BitVec 32) (rest : Bytes) : codeWordOf (headerBytes w ++ rest) = w := by
  show w.extractLsb' 24 8 ++ w.extractLsb' 16 8 ++ w.extractLsb' 8 8 ++ w.extractLsb' 0 8 = w
  rw [BitVec.extractLsb'_append_extractLsb'_eq_extractLsb' (by rfl),
    BitVec.extractLsb'_append_extractLsb'_eq_extractLsb' (by rfl),
    BitVec.extractLsb'_append_extractLsb'_eq_extractLsb' (by rfl)]
  exact BitVec.extractLsb'_eq_self

/-- The data bytes of a station frame of this header and payload (R3, R10). -/
def stationBytes (h : Header) (payload : Bytes) : Bytes :=
  headerBytes h.codeWord ++ (if h.isLong = true then payload ++ le2 (crc16 payload).toNat else [])

theorem stationBytes_length (h : Header) (payload : Bytes) :
    (stationBytes h payload).length = if h.isLong = true then 6 + payload.length else 4 := by
  unfold stationBytes
  split
  · simp [headerBytes, le2]; omega
  · rfl

theorem codeWordOf_stationBytes (h : Header) (payload : Bytes) : codeWordOf (stationBytes h payload) = h.codeWord :=
  codeWordOf_headerBytes _ _

/-- The payload of a long frame stands between its header and its CRC. -/
theorem stationBytes_payload {h : Header} (hl : h.isLong = true) (payload : Bytes) :
    ((stationBytes h payload).drop 4).take ((stationBytes h payload).length - 6) = payload := by
  rw [stationBytes_length, if_pos hl, Nat.add_sub_cancel_left, stationBytes, if_pos hl]
  simp [headerBytes]

theorem stationBytes_crc {h : Header} (hl : h.isLong = true) (payload : Bytes) :
    (stationBytes h payload).drop ((stationBytes h payload).length - 2) = le2 (crc16 payload).toNat := by
  rw [stationBytes_length, if_pos hl, stationBytes, if_pos hl, ← List.append_assoc]
  exact List.drop_left' (by simp [headerBytes]; omega)

theorem framePayload_stationBytes {h : Header} {payload : Bytes} (hlong : h.isLong = true → 1 ≤ payload.length)
    (hshort : h.isLong = false → payload = []) : framePayload h (stationBytes h payload) = payload := by
  unfold framePayload
  by_cases hl : h.isLong = true
  · have hlen : 7 ≤ (stationBytes h payload).length := by
      have := hlong hl
      rw [stationBytes_length, if_pos hl]; omega
    rw [if_pos ⟨hl, hlen⟩, stationBytes_payload hl]
  · rw [if_neg fun hc => hl hc.1, hshort (by simpa using hl)]

theorem crcResult_stationBytes {h : Header} {payload : Bytes} (check : Bool)
    (hlong : h.isLong = true → 1 ≤ payload.length) :
    crcResult check h (stationBytes h payload)
      = if h.isLong = false then .absent else if check = true then .agrees else .unchecked := by
  unfold crcResult
  by_cases hl : h.isLong = true
  · have hlen : ¬ (stationBytes h payload).length < 7 := by
      have := hlong hl
      rw [stationBytes_length, if_pos hl]; omega
    rw [stationBytes_payload hl, stationBytes_crc hl]
    cases check <;> simp [hl, hlen]
  · simp [hl]

/-- A station frame as written out decodes to its header and payload (R11). -/
theorem decodeStationFrame_stationBytes {h : Header} {payload : Bytes} (check : Bool) (e : FrameEnd)
    (hlong : h.isLong = true → 1 ≤ payload.length ∧ payload.length ≤ 256) (hshort : h.isLong = false → payload = []) :
    decodeStationFrame check (stationBytes h payload) e =
      { headerClass := .clean, header := h
        byteCount := if h.isLong = true then 6 + payload.length else 4
        overrun := false, payload := payload
        crc := if h.isLong = false then .absent else if check = true then .agrees else .unchecked
        closing := closingOf (stationBytes h payload).length e } := by
  have hlen : 4 ≤ (stationBytes h payload).length ∧ (stationBytes h payload).length ≤ storedLimit := by
    rw [stationBytes_length]
    unfold storedLimit
    split
    · next hl => have := hlong hl; omega
    · omega
  have hfour : ¬ (stationBytes h payload).length < 4 := Nat.not_lt.mpr hlen.1
  have hcount : min (stationBytes h payload).length 4095 = (stationBytes h payload).length :=
    Nat.min_eq_left (hlen.2.trans (by decide))
  have hover : decide (storedLimit < (stationBytes h payload).length) = false :=
    decide_eq_false (Nat.not_lt.mpr hlen.2)
  rw [← stationBytes_length]
  simp only [decodeStationFrame, List.take_of_length_le hlen.2, codeWordOf_stationBytes, classifyHeader_codeWord,
    if_neg hfour, hcount, hover, framePayload_stationBytes (fun hl => (hlong hl).1) hshort,
    crcResult_stationBytes check fun hl => (hlong hl).1]

/-- Settles O53: the code by linearity (a code word adds nothing to the check sums of an error), and the frame part by part. -/
theorem encodedFramesDecodeBack : Obligations.EncodedFramesDecodeBack := by
  unfold Obligations.EncodedFramesDecodeBack
  refine ⟨classifyHeader_codeWord, fun h p => classifyHeader_single h, fun h p q => classifyHeader_double h, ?_⟩
  intro h payload check bytes last e c hends hlong hshort hbytes
  obtain rfl : bytes = stationBytes h payload := hbytes
  have hfour : ¬ (stationBytes h payload).length < 4 := by
    rw [stationBytes_length]; split <;> omega
  have hlast : collectBytes [last] = ([], e) ∧ closingOf (stationBytes h payload).length e = c := by
    rcases hends with ⟨rfl, rfl, rfl⟩ | ⟨rfl, rfl, rfl⟩ <;> exact ⟨by decide, if_neg hfour⟩
  refine ⟨?_, ?_⟩
  · rw [collectBytes_data, hlast.1, List.append_nil]
  · rw [decodeStationFrame_stationBytes check e hlong hshort, hlast.2]

end Sys2Proof.Machine
end

section
namespace Sys2Proof.Machine

/-! ## Requests by their answers, and bodies by their first checks -/

/-- A request that its block refuses. -/
theorem exec_of_refused {q : Request} {tag : Byte} {b : Bytes} {s : State} {st : Status} (h : s.takes tag q.code b)
    (ha : q.answer b s = s.refuse st) : exec (q.command tag b) s = .next (s.refused q tag b st) := by
  rw [exec_request h, ha]; rfl

/-- A request that its block carries out. -/
theorem exec_of_ok {q : Request} {tag : Byte} {b fields : Bytes} {s u : State} (h : s.takes tag q.code b)
    (ha : q.answer b s = (u, .ok fields)) : exec (q.command tag b) s = .next (s.answered u q tag b .ok fields) := by
  rw [exec_request h, ha]; rfl

theorem fin?_val {n : Nat} (i : Fin n) : fin? n i.val = some i := dif_pos i.isLt

theorem fin?_of_le {n v : Nat} (h : n ≤ v) : fin? n v = none := dif_neg (Nat.not_lt.mpr h)

theorem decodeEmpty_of_ne {b : Bytes} (h : b.length ≠ 0) : decodeEmpty b = .error .badLength := if_pos h

theorem decodeEmpty_of_eq {b : Bytes} (h : b.length = 0) : decodeEmpty b = .ok () := if_neg (not_not.mpr h)

theorem decodeIndex_badLength {n : Nat} {b : Bytes} (h : b.length ≠ 1) : decodeIndex n b = .error .badLength := if_pos h

theorem decodeIndex_badValue {n : Nat} {b : Bytes} (h : b.length = 1) (hv : n ≤ u8 b 0) :
    decodeIndex n b = .error .badValue := by
  rw [decodeIndex, if_neg (not_not.mpr h), fin?_of_le hv]

theorem decodeIndex_ok {n : Nat} {b : Bytes} {i : Fin n} (h : b.length = 1) (hv : i.val = u8 b 0) :
    decodeIndex n b = .ok i := by
  rw [decodeIndex, if_neg (not_not.mpr h), ← hv, fin?_val]

/-! ## The figures of a round's layout -/

/-- The lead-in of every segment but the first, in bit times (R35). -/
def laterLead (ln : LineConfig) (rc : RoundConfig) : Nat := if rc.segmentGap = 0 then 20 else rc.segmentGap * ln.rate

theorem leadIn_first (ln : LineConfig) (rc : RoundConfig) : leadIn ln rc true = 20 := if_pos (Or.inl rfl)

theorem leadIn_later (ln : LineConfig) (rc : RoundConfig) : leadIn ln rc false = laterLead ln rc := by
  simp [leadIn, laterLead, interFrameIdle]

/-- Segments behind another one: their frames, each with its lead-in. -/
theorem segmentsBits_later (ln : LineConfig) (rc : RoundConfig) (l : List Segment) :
    segmentsBits ln rc false l = (l.map fun g => 80 + 10 * g.len).sum + l.length * laterLead ln rc := by
  induction l with
  | nil => simp [segmentsBits]
  | cons g rest ih => simp only [segmentsBits, leadIn_later, longFrame, ih, List.map_cons, List.sum_cons,
      List.length_cons]; ring

/-- D: the SYNC, the segment frames, 20 bit times before the first of them and a lead-in before each other (R35). -/
theorem fixedPart_eq (ln : LineConfig) (rc : RoundConfig) (table : List Segment) :
    fixedPart ln rc table = 60 + (table.map fun g => 80 + 10 * g.len).sum
      + (if table = [] then 0 else 20 + (table.length - 1) * laterLead ln rc) := by
  cases table with
  | nil => rfl
  | cons g rest =>
    simp only [fixedPart, segmentsBits, leadIn_first, segmentsBits_later, shortFrame, longFrame, List.map_cons,
      List.sum_cons, List.length_cons, Nat.add_sub_cancel, if_neg (List.cons_ne_nil g rest)]
    ring

theorem RoundConfig.length_eq (rc : RoundConfig) :
    rc.length = if rc.mode = .timed then rc.period else rc.minPeriod := by
  unfold RoundConfig.length
  cases rc.mode <;> rfl

/-- Rounding a difference up to microseconds: nothing is left of one that is not positive (R23, R48). -/
theorem LineConfig.bitsToMicros_sub (c : LineConfig) (len d : Nat) :
    c.bitsToMicros (len - d) = if len < d then 0 else (len - d + c.rate - 1) / c.rate := by
  split
  · next h =>
    rw [Nat.sub_eq_zero_of_le (Nat.le_of_lt h), LineConfig.bitsToMicros]
    rcases Nat.eq_zero_or_pos c.rate with h0 | hpos
    · rw [h0]
    · exact Nat.div_eq_of_lt (by omega)
  · rfl

/-! ## READ ROUND (O15) -/

/-- The reply of READ ROUND in full. -/
theorem answerReadRound_ok {b : Bytes} (s : State) (hb : b.length = 0) :
    answerReadRound b s = (s, .ok
      (le1 s.engine.state.code ++ le4 s.engine.counter.toNat ++ s.engine.config.bytes
        ++ le4 (s.line.config.bitsToMicros (fixedPart s.line.config s.engine.config s.engine.table))
        ++ le2 (s.line.config.bitsToMicros (closingLength s.line.config s.engine.config s.engine.table)))) := by
  rw [answerReadRound, decodeEmpty_of_eq hb]

/-- Settles O15: the two derived figures are D and the round length less D, rounded up. -/
theorem readRoundReply : Obligations.ReadRoundReply := by
  unfold Obligations.ReadRoundReply
  intro tag body s d len h hd hlen
  have hD : fixedPart s.line.config s.engine.config s.engine.table = d := by
    rw [hd, fixedPart_eq, laterLead]
  have hclosing : closingLength s.line.config s.engine.config s.engine.table = len - d := by
    rw [closingLength, roundLength, RoundConfig.length_eq, hD, hlen]
  by_cases hb : body.length = 0
  · rw [if_neg (not_not.mpr hb)]
    refine (exec_of_ok (q := .readRound) h (answerReadRound_ok s hb)).trans ?_
    rw [hD, hclosing, LineConfig.bitsToMicros_sub, LineConfig.bitsToMicros, RoundConfig.bytes]
    simp only [← List.append_assoc]
    cases s.engine.state <;> rfl
  · rw [if_pos hb]
    exact exec_of_refused (q := .readRound) h (by
      rw [Request.answer, answerReadRound, decodeEmpty_of_ne hb])

end Sys2Proof.Machine
end

section
namespace Sys2Proof.Machine

/-! ## The fit of a record (O20) -/

theorem closingLength_eq (s : State) :
    closingLength s.line.config s.engine.config s.engine.table
      = (if s.engine.config.mode = .timed then s.engine.config.period else s.engine.config.minPeriod)
        * s.line.config.rate - fixedPart s.line.config s.engine.config s.engine.table := by
  rw [closingLength, roundLength, RoundConfig.length_eq]

theorem lastIndex_eq_some {table : List Segment} {k : SegmentIndex} :
    lastIndex table = some k ↔ ∃ g, table.getLast? = some g ∧ g.index = k := by
  simp [lastIndex]

theorem any_index_iff {table : List Segment} {k : SegmentIndex} :
    (table.any fun g => g.index == k) = true ↔ ∃ g ∈ table, g.index = k := by
  simp

section
variable (ln : LineConfig) (rc : RoundConfig) (table : List Segment) (r : Nat)

theorem canFit_iff (p : Placement) : canFit ln rc table p r = true ↔ ∃ g ∈ gapLengths ln rc table p, r + 20 ≤ g := by
  simp only [canFit, List.any_eq_true, decide_eq_true_eq]
  rfl

/-- The closing gap is the one that CLOSING names. -/
theorem canFit_closing : canFit ln rc table .closing r = true ↔ r + 20 ≤ closingLength ln rc table := by
  simp [canFit_iff, gapLengths]

variable {table}

/-- Behind the last record lies the closing gap. -/
theorem canFit_afterLast {k : SegmentIndex} (h : lastIndex table = some k) :
    canFit ln rc table (.afterSegment k) r = true ↔ r + 20 ≤ closingLength ln rc table := by
  simp [canFit_iff, gapLengths, h]

/-- Behind another record of the table lies a segment gap, when there are such. -/
theorem canFit_afterInner {k : SegmentIndex} (hmem : ∃ g ∈ table, g.index = k) (h : lastIndex table ≠ some k) :
    canFit ln rc table (.afterSegment k) r = true ↔ rc.segmentGap ≠ 0 ∧ r + 20 ≤ rc.segmentGap * ln.rate := by
  rw [canFit_iff, gapLengths, if_neg h, any_index_iff.mpr hmem]
  by_cases hgap : 0 < rc.segmentGap
  · simp [hgap, Nat.ne_of_gt hgap]
  · simp [Nat.eq_zero_of_not_pos hgap]

/-- An index that is not in the table names no gap. -/
theorem canFit_afterMissing {k : SegmentIndex} (h : ∀ g ∈ table, g.index ≠ k) :
    canFit ln rc table (.afterSegment k) r = false := by
  have hlast : lastIndex table ≠ some k := fun e => by
    obtain ⟨g, hg, hk⟩ := lastIndex_eq_some.mp e
    exact h g (List.mem_of_getLast? hg) hk
  have hany : ¬ (table.any fun g => g.index == k) = true := fun e => by
    obtain ⟨g, hg, hk⟩ := any_index_iff.mp e
    exact h g hg hk
  rw [canFit, gapLengths, if_neg hlast, if_neg fun e => hany e.1]
  rfl

/-- ANY names the closing gap, and a segment gap when there is one. -/
theorem canFit_any :
    canFit ln rc table .any r = true ↔ r + 20 ≤ closingLength ln rc table
      ∨ (rc.segmentGap ≠ 0 ∧ 2 ≤ table.length ∧ r + 20 ≤ rc.segmentGap * ln.rate) := by
  rw [canFit_iff, gapLengths]
  by_cases hgap : 0 < rc.segmentGap ∧ 2 ≤ table.length
  · simp [hgap, Nat.ne_of_gt hgap.1]
  · have hno : ¬ (rc.segmentGap ≠ 0 ∧ 2 ≤ table.length ∧ r + 20 ≤ rc.segmentGap * ln.rate) := fun h =>
      hgap ⟨Nat.pos_of_ne_zero h.1, h.2.1⟩
    rw [if_neg hgap, or_iff_left hno]
    simp

end

/-- Settles O20: the gaps each placement names, and the reservation kind by kind. -/
theorem fitOfARecord : Obligations.FitOfARecord := by
  unfold Obligations.FitOfARecord
  refine ⟨fun s r closing seg _ hclosing hseg => ?_, fun s r m hm => ?_⟩
  · rw [← closingLength_eq] at hclosing
    subst hclosing hseg
    refine ⟨fun hp => ?_, fun k hp => ⟨fun g hg hk => ?_, fun hmem hlast => ?_, fun hno => ?_⟩, fun hp => ?_⟩ <;>
      rw [State.canFit, hp]
    · exact canFit_closing ..
    · exact canFit_afterLast _ _ _ (lastIndex_eq_some.mpr ⟨g, hg, hk⟩)
    · refine canFit_afterInner _ _ _ hmem fun e => ?_
      obtain ⟨g, hg, hk⟩ := lastIndex_eq_some.mp e
      exact hlast g hg hk
    · exact canFit_afterMissing _ _ _ hno
    · exact canFit_any ..
  · have hlimit : m = s.limitOf r.target := hm.trans (by cases r.target <;> rfl)
    rw [State.reservation, hlimit]
    cases r.kind <;> rfl

end Sys2Proof.Machine
end

section
namespace Sys2Proof.Machine

/-! ## START and STOP (O22, O23) -/

/-- What START leaves: the records that cannot fit completed, and the engine in SETTLING on a QUIET line. -/
theorem State.beginRun_eq (s : State) :
    s.beginRun = ((s.completeAll (fun r => !s.canFit r) .unplaceable).setEngine { s.engine with
      state := .settling, counter := 0, prevStart := none, pendingStart := none, deadline := none
      settleEnd := some (tickOf s.now + micros s.engine.config.settleTime), roundEnd := none
      agenda := [] }).setLine { s.line with activity := .quiet ⟨s.now, 0⟩ } := by
  simp only [State.beginRun, State.completeAll_engine, State.goQuiet, State.setActivity, State.setEngine_line,
    State.setEngine_now, State.completeAll_line, State.completeAll_now]

theorem tickOf_eq (t : Time) : tickOf t = (t + 31) / 32 * 32 := Nat.mul_comm _ _

/-- The budget check of R25: D and the closing gap's least length, at least 20 bit times, in the round. -/
theorem budgetHolds_iff (s : State) :
    budgetHolds s.line.config s.engine.config s.engine.table = true ↔
      ¬ (if s.engine.config.mode = .timed then s.engine.config.period else s.engine.config.minPeriod)
          * s.line.config.rate
        < fixedPart s.line.config s.engine.config s.engine.table
          + max (s.engine.config.minClosing * s.line.config.rate) 20 := by
  simp only [budgetHolds, decide_eq_true_eq, Nat.not_lt, roundLength, RoundConfig.length_eq]
  rfl

/-- Settles O22: the three checks of START in order, and its work. -/
theorem startRequest : Obligations.StartRequest := by
  unfold Obligations.StartRequest
  intro tag b s u len h hlen hu
  subst hlen hu
  have hrefuse {st : Status} (ha : answerStart b s = s.refuse st) := exec_of_refused (q := .start) h ha
  by_cases hb : b.length = 0
  · rw [if_neg (not_not.mpr hb)]
    have hanswer : answerStart b s =
        if s.engine.state ≠ .stopped then s.refuse .wrongState
        else if budgetHolds s.line.config s.engine.config s.engine.table = true then
          (s.beginRun, .ok (le1 (s.countMatching fun r => !s.canFit r)))
        else s.refuse .tableOverrun := by rw [answerStart, decodeEmpty_of_eq hb]
    by_cases hs : s.engine.state = .stopped
    · rw [if_neg (not_not.mpr hs)] at hanswer ⊢
      by_cases hbudget : budgetHolds s.line.config s.engine.config s.engine.table = true
      · rw [if_pos hbudget] at hanswer
        rw [if_neg ((budgetHolds_iff s).mp hbudget), ← tickOf_eq, ← State.beginRun_eq]
        exact exec_of_ok (q := .start) h hanswer
      · rw [if_neg hbudget] at hanswer
        rw [if_pos (not_not.mp (mt (budgetHolds_iff s).mpr hbudget))]
        exact hrefuse hanswer
    · rw [if_pos hs] at hanswer ⊢
      exact hrefuse hanswer
  · rw [if_pos hb]
    exact hrefuse (by rw [answerStart, decodeEmpty_of_ne hb])

/-- STOP with an empty body is taken in every state. -/
theorem exec_stop {tag : Byte} {b : Bytes} {s : State} (h : s.takes tag 0x29 b) (hb : b.length = 0) :
    exec (.stop tag b) s = .next (s.answered s.stop .stop tag b .ok []) :=
  exec_of_ok (q := .stop) h (by rw [Request.answer, answerStop, decodeEmpty_of_eq hb])

/-- STOP in RUNNING before the round's end: the STOPPING round goes on. -/
theorem State.stopRunning_before {s : State} (h : s.now < s.stoppingEnd) :
    s.stopRunning = (s.setEngine { s.engine with
      state := .stopping, pendingStart := none, roundEnd := some s.stoppingEnd,
      agenda := s.engine.agenda.filter RoundItem.isSegment }).closeGap :=
  if_neg fun hc => absurd hc.1 (Nat.not_le.mpr h)

/-- STOP in RUNNING at the round's end: STOPPED at once, with nothing left of the STOPPING round. -/
theorem State.stopRunning_at {s : State} (h : s.stoppingEnd ≤ s.now) (hq : s.isQuiet = true) :
    s.stopRunning = s.enterStopped := if_pos ⟨h, hq⟩

theorem RoundItem.isSegment_eq :
    RoundItem.isSegment = fun x => match x with
      | .segment _ _ => true
      | .gap _ _ _ => false := by
  funext x
  cases x <;> rfl

theorem State.stoppingEnd_eq (s : State) :
    s.stoppingEnd = match s.engine.config.mode, s.engine.prevStart with
      | .timed, some p => p + micros s.engine.config.period
      | .triggered, some p => max s.now (p + micros s.engine.config.minPeriod)
      | _, none => s.now := by
  unfold State.stoppingEnd
  cases s.engine.config.mode <;> cases s.engine.prevStart <;> rfl

/-- Settles O23: STOP in each engine state. -/
theorem stopRequest : Obligations.StopRequest := by
  unfold Obligations.StopRequest
  intro tag b s stopped stopping h hstopped hstopping
  have hend : stopping.engine.roundEnd = some s.stoppingEnd := by rw [hstopping, State.stoppingEnd_eq]; rfl
  have hround : stopping = (s.setEngine { s.engine with
      state := .stopping, pendingStart := none, roundEnd := some s.stoppingEnd,
      agenda := s.engine.agenda.filter RoundItem.isSegment }).closeGap := by
    rw [hstopping, State.stoppingEnd_eq, RoundItem.isSegment_eq]; rfl
  have hdone : stopped = s.enterStopped := hstopped
  refine ⟨fun hb => exec_of_refused (q := .stop) h ?_, fun hb hs => ?_, fun hb hs => ?_, fun hb hs => ?_,
    fun hb hs => ⟨fun e he hlt => ?_, fun e he hle hq => ?_⟩⟩
  · rw [Request.answer, answerStop, decodeEmpty_of_ne hb]
  all_goals rw [exec_stop h hb, State.stop]
  · rcases hs with hs | hs <;> rw [hs]
  · rw [hs, hdone]
  · rw [hs]; rfl
  · obtain rfl : s.stoppingEnd = e := Option.some.inj (hend.symm.trans he)
    rw [hs, hround, ← State.stopRunning_before hlt]
  · obtain rfl : s.stoppingEnd = e := Option.some.inj (hend.symm.trans he)
    rw [hs, hdone, ← State.stopRunning_at hle hq]

end Sys2Proof.Machine
end

section
namespace Sys2Proof.Machine

/-! ## The moments of a round: starts, edges, segment frames and gaps (O38, O40, O42) -/

/-! ### Timed commands at their moments -/

/-- SETTLE_TIMER_EXPIRY on a QUIET line at the settle timer's moment. -/
theorem exec_settleTimerExpiry {s : State} {m : Time} (hheld : s.held = false) (hq : s.isQuiet = true)
    (hs : s.engine.state = .settling) (hm : s.engine.settleEnd = some m) (hc : s.comes m) :
    exec .settleTimerExpiry s = .next (s.upTo m).settleExpired := by
  have hdue : s.dueAt .settleTimer = some m := by rw [State.dueAt, if_pos ⟨hs, hq⟩, hm]
  show Host.Outcome.next _ = _
  rw [State.whenFree_of_free hheld, hdue, State.atMoment_comes hc]

/-- ROUND_START on a QUIET line at the moment that the engine has fixed. -/
theorem exec_roundStart {s : State} {m : Time} (hheld : s.held = false) (hq : s.isQuiet = true)
    (hm : s.engine.roundStartAt = some m) (hc : s.comes m) :
    exec .roundStart s = .next ((s.upTo m).startRound s.engine.fixedByDeadline) := by
  have hdue : s.dueAt .roundStart = some m := by rw [State.dueAt, if_pos hq, hm]
  show Host.Outcome.next _ = _
  rw [State.whenFree_of_free hheld, hdue, State.atMoment_comes hc, State.upTo_engine]

/-- An event that is not due changes nothing, held or not. -/
theorem State.whenFree_notDue {s : State} {e : Timed} (h : s.dueAt e = none) (f : State → State → State) :
    (s.whenFree fun s => s.atMoment (s.dueAt e) (f s)) = s := by
  unfold State.whenFree
  split
  · rfl
  · show s.atMoment (s.dueAt e) (f s) = s
    rw [h, State.atMoment_none]

/-! ### The moment of a round start -/

theorem Engine.roundStartAt_timed {e : Engine} {p : Time} (hs : e.state = .running) (hm : e.config.mode = .timed)
    (hp : e.prevStart = some p) : e.roundStartAt = some (p + micros e.config.period) := by
  rw [Engine.roundStartAt, hs, hm, hp]; rfl

/-- In TRIGGERED mode the pending start, and without one the deadline. -/
theorem Engine.roundStartAt_triggered {e : Engine} (hs : e.state = .running ∨ e.state = .settling)
    (hm : e.config.mode = .triggered) : e.roundStartAt = (e.pendingStart <|> e.deadline) := by
  rcases hs with hs | hs <;> rw [Engine.roundStartAt, hs, hm]

theorem Engine.roundStartAt_none {e : Engine} (hs : e.state = .stopped ∨ e.state = .stopping ∨ e.state = .halted) :
    e.roundStartAt = none := by
  rcases hs with hs | hs | hs <;> rw [Engine.roundStartAt, hs]

/-- Settles O38: the four moments of a round start, and the states without one. -/
theorem roundStartsAtItsMoment : Obligations.RoundStartsAtItsMoment := by
  unfold Obligations.RoundStartsAtItsMoment
  refine ⟨fun c s m missing hheld hq hc h => ?_, fun s m hheld hq hc hs hm hend => ?_, fun s hs => ?_⟩
  · rcases h with ⟨rfl, rfl, hs, hm, hend⟩ | ⟨rfl, rfl, hs, hm, p, hp, rfl⟩ | ⟨rfl, rfl, hs, hm, hp⟩
      | ⟨rfl, rfl, hs, hm, hp, hd⟩
    · rw [exec_settleTimerExpiry hheld hq hs hend hc, State.settleExpired, State.upTo_engine, hm]
    · rw [exec_roundStart hheld hq (Engine.roundStartAt_timed hs hm hp) hc, Engine.fixedByDeadline, hm]; rfl
    · rw [exec_roundStart hheld hq (by rw [Engine.roundStartAt_triggered hs hm, hp]; rfl) hc,
        Engine.fixedByDeadline, hm, hp]; rfl
    · rw [exec_roundStart hheld hq (by rw [Engine.roundStartAt_triggered hs hm, hp, hd]; rfl) hc,
        Engine.fixedByDeadline, hm, hp]; rfl
  · rw [exec_settleTimerExpiry hheld hq hs hend hc, State.settleExpired, State.upTo_engine, hm]; rfl
  · have hdue : s.dueAt .roundStart = none := by
      rw [State.dueAt, Engine.roundStartAt_none hs, ite_self]
    exact congrArg _ (State.whenFree_notDue hdue fun _ s => s.startRound s.engine.fixedByDeadline)

/-! ### TRIG edges -/

theorem exec_trigEdge {s : State} (hheld : s.held = false) : exec .trigEdge s = .next s.trigEdge := by
  show Host.Outcome.next _ = _
  rw [State.whenFree_of_free hheld]

theorem State.acceptEdge_eq (s : State) :
    s.acceptEdge = s.setEngine { s.engine with
      pendingStart := some ((s.now + 31) / 32 * 32 + micros s.engine.config.triggerDelay) } := by
  rw [State.acceptEdge, tickOf_eq]

/-- An edge in a round keeps min_period from the previous start, or it comes too early. -/
theorem State.edgeInTime_iff {s : State} {p : Time} (hp : s.engine.prevStart = some p) :
    s.edgeInTime = true ↔ p + micros s.engine.config.minPeriod
      ≤ (s.now + 31) / 32 * 32 + micros s.engine.config.triggerDelay := by
  simp only [State.edgeInTime, hp, decide_eq_true_eq, tickOf_eq]

/-- Settles O40: an edge by mode and engine state. -/
theorem triggerEdges : Obligations.TriggerEdges := by
  unfold Obligations.TriggerEdges
  intro s t hheld ht
  rw [exec_trigEdge hheld]
  have haccept : s.acceptEdge = s.setEngine { s.engine with pendingStart := some t } := by
    rw [State.acceptEdge_eq, ht]
  refine ⟨fun hm => ?_, fun hm => ⟨fun hs => ?_, fun hs hend => ?_, fun hs hend hp => ?_, fun hs hend hp => ?_,
    fun p hs hprev => ?_⟩⟩
  · rw [State.trigEdge, hm]
  · rcases hs with hs | hs | hs <;> rw [State.trigEdge, hm, hs]
  · simp only [State.trigEdge, hm, hs, if_pos hend]
  · simp only [State.trigEdge, hm, hs, hend, hp, if_true, haccept]
    rfl
  · simp only [State.trigEdge, hm, hs, hend, if_neg hp]
    rfl
  · simp only [State.trigEdge, hm, hs, State.edgeInTime_iff hprev, ← ht, haccept]

/-! ### Segment frames and gaps -/

/-- SEGMENT_FRAME on a QUIET line at the next segment's moment. -/
theorem exec_segmentFrame {s : State} {d : Time} {k : SegmentIndex} {rest : List RoundItem} (hheld : s.held = false)
    (hq : s.isQuiet = true) (hs : s.engine.state = .running ∨ s.engine.state = .stopping)
    (ha : s.engine.agenda = .segment d k :: rest) (hc : s.comes d) :
    exec .segmentFrame s = .next (s.upTo d).sendSegment := by
  have hdue : s.dueAt .segmentFrame = some d := by
    simp only [State.dueAt, ha]
    exact if_pos ⟨hq, hs⟩
  show Host.Outcome.next _ = _
  rw [State.whenFree_of_free hheld, hdue, State.atMoment_comes hc]

theorem State.sendSegment_eq {s : State} {d : Time} {k : SegmentIndex} {rest : List RoundItem} {g : Segment}
    (ha : s.engine.agenda = .segment d k :: rest) (hg : s.engine.segment k = some g) :
    s.sendSegment
      = (s.setEngine { s.engine with agenda := rest }).setLine
          { s.line with activity := .sending (s.segmentFrame g) } := by
  simp only [State.sendSegment, ha, hg]
  rfl

/-- GAP_OPENING on a QUIET line at the next gap's moment. -/
theorem exec_gapOpening {s : State} {d ends : Time} {k : GapKind} {rest : List RoundItem} (hheld : s.held = false)
    (hq : s.isQuiet = true) (hs : s.engine.state = .running) (ha : s.engine.agenda = .gap d k ends :: rest)
    (hc : s.comes d) : exec .gapOpening s = .next (s.upTo d).openGap := by
  have hdue : s.dueAt .gapOpening = some d := by
    simp only [State.dueAt, ha]
    exact if_pos ⟨hq, hs⟩
  show Host.Outcome.next _ = _
  rw [State.whenFree_of_free hheld, hdue, State.atMoment_comes hc]

theorem State.openGap_eq {s : State} {d ends : Time} {k : GapKind} {rest : List RoundItem}
    (ha : s.engine.agenda = .gap d k ends :: rest) :
    s.openGap = ((s.setEngine { s.engine with agenda := rest }).setSched
      { s.sched with openGap := some { kind := k, ends := ends } }).walk := by
  simp only [State.openGap, ha]

/-- Outside RUNNING no gap opens. -/
theorem State.dueAt_gapOpening_none {s : State} (hs : s.engine.state ≠ .running) : s.dueAt .gapOpening = none := by
  simp only [State.dueAt]
  split
  · exact if_neg fun hc => hs hc.2
  · rfl

/-- Settles O42: the next item of the layout at its moment, and the open gap's end. -/
theorem segmentFramesAndGaps : Obligations.SegmentFramesAndGaps := by
  unfold Obligations.SegmentFramesAndGaps
  refine ⟨fun s d k rest g hheld hq hs ha hg hc => ?_, fun s d ends k rest hheld hq hs ha hc => ?_, fun s hs => ?_,
    fun s g hheld hg hc => ?_⟩
  · rw [exec_segmentFrame hheld hq hs ha hc, State.sendSegment_eq (s := s.upTo d) ha hg]; rfl
  · rw [exec_gapOpening hheld hq hs ha hc, State.openGap_eq (s := s.upTo d) ha]; rfl
  · exact congrArg _ (State.whenFree_notDue (State.dueAt_gapOpening_none hs) fun _ => State.openGap)
  · have hdue : s.dueAt .gapEnd = some g.ends := by rw [State.dueAt, hg]; rfl
    show Host.Outcome.next _ = _
    rw [State.whenFree_of_free hheld, hdue, State.atMoment_comes hc]; rfl

end Sys2Proof.Machine
end

section
namespace Sys2Proof.Machine

/-! ## The requests on the Segment Table (O18, O19) -/

/-! ### Bodies -/

theorem Target.target?_code (t : Target) : target? t.code = some t := by
  cases t with
  | station i => simp only [Target.code, target?, fin?_val]
  | broadcast => rfl

theorem target?_none {n : Nat} (h : 7 < n ∧ n ≠ 15) : target? n = none := by
  rw [target?, fin?_of_le h.1]
  exact if_neg h.2

theorem decodeDefineSegment_badLength {b : Bytes} (h : b.length < 5 ∨ 260 < b.length) :
    decodeDefineSegment b = .error .badLength := if_pos h

/-- A segment index, a destination or a channel out of range (R41 check 2). -/
theorem decodeDefineSegment_badValue {b : Bytes} (hmin : 5 ≤ b.length) (hmax : b.length ≤ 260)
    (hv : 31 < u8 b 0 ∨ (7 < u8 b 1 ∧ u8 b 1 ≠ 15) ∨ 3 < u8 b 2) : decodeDefineSegment b = .error .badValue := by
  rw [decodeDefineSegment, if_neg (by omega)]
  split
  · next hi ht hc =>
    rcases hv with hv | hv | hv
    · rw [fin?_of_le hv] at hi; cases hi
    · rw [target?_none hv] at ht; cases ht
    · rw [fin?_of_le hv] at hc; cases hc
  · rfl

/-- The record that a DEFINE SEGMENT body in range spells. -/
theorem decodeDefineSegment_ok {b : Bytes} {g : Segment} (hmin : 5 ≤ b.length) (hmax : b.length ≤ 260)
    (hi : g.index.val = u8 b 0) (hd : g.destination.code = u8 b 1) (hc : g.channel.val = u8 b 2)
    (hf : g.freshness = u8 b 3) (ha : g.active = b.drop 4) (hs : g.staged = none) (hage : g.age = 0) :
    decodeDefineSegment b = .ok g := by
  rw [decodeDefineSegment, if_neg (by omega), ← hi, ← hd, ← hc, ← hf, ← ha, fin?_val, Target.target?_code, fin?_val,
    ← hs, ← hage]

theorem decodeUpdateSegment_badLength {b : Bytes} (h : b.length < 2 ∨ 257 < b.length) :
    decodeUpdateSegment b = .error .badLength := if_pos h

theorem decodeUpdateSegment_badValue {b : Bytes} (hmin : 2 ≤ b.length) (hmax : b.length ≤ 257) (hv : 31 < u8 b 0) :
    decodeUpdateSegment b = .error .badValue := by
  rw [decodeUpdateSegment, if_neg (by omega), fin?_of_le hv]

theorem decodeUpdateSegment_ok {b : Bytes} {k : SegmentIndex} (hmin : 2 ≤ b.length) (hmax : b.length ≤ 257)
    (hk : k.val = u8 b 0) : decodeUpdateSegment b = .ok (k, b.drop 1) := by
  rw [decodeUpdateSegment, if_neg (by omega), ← hk, fin?_val]

/-- A body of one byte below 32 names a segment index. -/
theorem exists_segmentIndex {n : Nat} (h : ¬ 31 < n) : ∃ k : SegmentIndex, k.val = n := ⟨⟨n, by omega⟩, rfl⟩

/-! ### The table -/

theorem EngineState.atRest_eq_true {e : EngineState} : e.atRest = true ↔ e = .stopped ∨ e = .halted := by
  cases e <;> decide

theorem EngineState.atRest_eq_false {e : EngineState} : e.atRest = false ↔ e ≠ .stopped ∧ e ≠ .halted := by
  cases e <;> decide

/-- In a table in index order the new record stands beside all records of other indices (R40, R41). -/
theorem mem_insertSegment {g x : Segment} {table : List Segment}
    (h : table.Pairwise fun a b => a.index < b.index) :
    x ∈ insertSegment g table ↔ x = g ∨ (x ∈ table ∧ x.index ≠ g.index) := by
  induction table with
  | nil => simp [insertSegment]
  | cons y rest ih =>
    obtain ⟨hy, hrest⟩ := List.pairwise_cons.mp h
    rw [insertSegment]
    split
    · next he =>
      have hne : ∀ z ∈ rest, z.index ≠ g.index := fun z hz => he ▸ (hy z hz).ne'
      simp only [List.mem_cons]
      grind
    · split
      · next hlt =>
        have hne : ∀ z ∈ rest, z.index ≠ g.index := fun z hz => (hlt.trans (hy z hz)).ne'
        simp only [List.mem_cons]
        grind
      · next hne _ =>
        simp only [List.mem_cons, ih hrest]
        grind

/-- The record is placed in index order (R40, R41). -/
theorem pairwise_insertSegment (g : Segment) {table : List Segment}
    (h : table.Pairwise fun a b => a.index < b.index) :
    (insertSegment g table).Pairwise fun a b => a.index < b.index := by
  induction table with
  | nil => simp [insertSegment]
  | cons y rest ih =>
    obtain ⟨hy, hrest⟩ := List.pairwise_cons.mp h
    rw [insertSegment]
    split
    · next he => exact List.pairwise_cons.mpr ⟨fun z hz => he ▸ hy z hz, hrest⟩
    · next hne =>
      split
      · next hlt =>
        refine List.pairwise_cons.mpr ⟨fun z hz => ?_, h⟩
        rcases List.mem_cons.mp hz with rfl | hz
        · exact hlt
        · exact hlt.trans (hy z hz)
      · next hge =>
        refine List.pairwise_cons.mpr ⟨fun z hz => ?_, ih hrest⟩
        rcases (mem_insertSegment hrest).mp hz with rfl | ⟨hz, -⟩
        · exact lt_of_le_of_ne (not_lt.mp hge) (Ne.symm hne)
        · exact hy z hz

theorem Engine.segment_isSome (e : Engine) (k : SegmentIndex) :
    (e.segment k).isSome = e.table.any fun g => g.index == k := by
  rw [Engine.segment, Bool.eq_iff_iff, List.find?_isSome, List.any_eq_true]

theorem leBool_eq (v : Bool) : leBool v = [if v = true then 1 else 0] := by cases v <;> rfl

/-! ### DEFINE and DELETE -/

/-- Checks 3 and 4 of DEFINE SEGMENT, and its work. -/
theorem answerDefineSegment_decoded {b : Bytes} {g : Segment} (s : State) (hg : decodeDefineSegment b = .ok g) :
    answerDefineSegment b s =
      if s.engine.state.atRest = false then s.refuse .wrongState
      else if Config.segmentStore < tableBytes (insertSegment g s.engine.table) then s.refuse .tableFull
      else (s.setTable (insertSegment g s.engine.table), .ok (leBool (s.engine.segment g.index).isSome)) := by
  rw [answerDefineSegment, hg]

/-- Checks 3 and 4 of DELETE SEGMENT, and its work. -/
theorem answerDeleteSegment_decoded {b : Bytes} {k : SegmentIndex} (s : State) (hk : decodeIndex 32 b = .ok k) :
    answerDeleteSegment b s =
      if s.engine.state.atRest = false then s.refuse .wrongState
      else if (s.engine.segment k).isNone = true then s.refuse .notFound
      else (s.setTable (s.engine.table.filter fun g => g.index != k), .ok []) := by
  rw [answerDeleteSegment, hk]

/-- The checks of DELETE SEGMENT in order, and its work. -/
theorem exec_deleteSegment {tag : Byte} {b : Bytes} {s : State} (h : s.takes tag 0x21 b) :
    exec (.deleteSegment tag b) s = .next (
      if b.length ≠ 1 then s.refused .deleteSegment tag b .badLength
      else if 31 < u8 b 0 then s.refused .deleteSegment tag b .badValue
      else if s.engine.state ≠ .stopped ∧ s.engine.state ≠ .halted then s.refused .deleteSegment tag b .wrongState
      else if s.engine.table.any (fun g => g.index.val == u8 b 0) = false then s.refused .deleteSegment tag b .notFound
      else s.answered
        (s.setEngine { s.engine with table := s.engine.table.filter fun g => g.index.val != u8 b 0 })
        .deleteSegment tag b .ok []) := by
  have hrefuse {st : Status} (ha : answerDeleteSegment b s = s.refuse st) :=
    exec_of_refused (q := .deleteSegment) h ha
  by_cases hb : b.length = 1
  · rw [if_neg (not_not.mpr hb)]
    by_cases hv : 31 < u8 b 0
    · rw [if_pos hv]
      exact hrefuse (by rw [answerDeleteSegment, decodeIndex_badValue hb hv])
    · obtain ⟨k, hk⟩ := exists_segmentIndex hv
      have hanswer := answerDeleteSegment_decoded s (decodeIndex_ok hb hk)
      have hindex (g : Segment) : (g.index.val == u8 b 0) = (g.index == k) := by
        rw [← hk, Bool.eq_iff_iff, beq_iff_eq, beq_iff_eq, Fin.ext_iff]
      have hfind : (s.engine.segment k).isNone = true ↔ (s.engine.table.any fun g => g.index == k) = false := by
        rw [← Engine.segment_isSome, Option.isNone_iff_eq_none, Option.isSome_eq_false_iff, Option.isNone_iff_eq_none]
      simp only [if_neg hv, bne, hindex, ← EngineState.atRest_eq_false, ← hfind]
      split_ifs at hanswer ⊢
      · exact hrefuse hanswer
      · exact hrefuse hanswer
      · exact exec_of_ok (q := .deleteSegment) h hanswer
  · rw [if_pos hb]
    exact hrefuse (by rw [answerDeleteSegment, decodeIndex_badLength hb])

/-- Settles O18: the checks of both requests in order; the table that DEFINE leaves is `insertSegment`'s. -/
theorem defineAndDeleteSegment : Obligations.DefineAndDeleteSegment := by
  unfold Obligations.DefineAndDeleteSegment
  refine ⟨fun tag b s htable h => ?_, fun tag b s h => exec_deleteSegment h⟩
  have hrefuse {st : Status} (ha : answerDefineSegment b s = s.refuse st) :=
    exec_of_refused (q := .defineSegment) h ha
  refine ⟨fun hb => hrefuse (by rw [answerDefineSegment, decodeDefineSegment_badLength hb]),
    fun hmin hmax hv => hrefuse (by rw [answerDefineSegment, decodeDefineSegment_badValue hmin hmax hv]),
    fun g hmin hmax hi hd hc hf ha hs hage => ?_⟩
  have hanswer := answerDefineSegment_decoded s (decodeDefineSegment_ok hmin hmax hi hd hc hf ha hs hage)
  obtain ⟨hsorted, -, -⟩ := htable
  refine ⟨fun hstop hhalt => ?_, fun hrest => ⟨insertSegment g s.engine.table, fun x => mem_insertSegment hsorted,
    pairwise_insertSegment g hsorted, ?_⟩⟩
  · rw [if_pos (EngineState.atRest_eq_false.mpr ⟨hstop, hhalt⟩)] at hanswer
    exact hrefuse hanswer
  · have hstore : answerDefineSegment b s =
        if 4096 < ((insertSegment g s.engine.table).map Segment.len).sum then s.refuse .tableFull
        else (s.setTable (insertSegment g s.engine.table), .ok (leBool (s.engine.segment g.index).isSome)) := by
      rw [hanswer, EngineState.atRest_eq_true.mpr hrest]; rfl
    rw [Engine.segment_isSome, leBool_eq] at hstore
    by_cases hfull : 4096 < ((insertSegment g s.engine.table).map Segment.len).sum
    · rw [if_pos hfull] at hstore ⊢
      exact hrefuse hstore
    · rw [if_neg hfull] at hstore ⊢
      exact exec_of_ok (q := .defineSegment) h hstore

/-! ### UPDATE and READ -/

/-- Checks 3 and 4 of UPDATE SEGMENT for a record that is there, and its work. -/
theorem answerUpdateSegment_found {b p : Bytes} {s : State} {k : SegmentIndex} {g : Segment}
    (hk : decodeUpdateSegment b = .ok (k, p)) (hg : s.engine.segment k = some g) :
    answerUpdateSegment b s =
      if p.length ≠ g.len then s.refuse .lengthMismatch
      else
        (s.setTable (s.engine.table.map fun x => if x.index = k then x.refreshed s.engine.state.atRest p else x),
          .ok (leBool g.staged.isSome)) := by
  simp only [answerUpdateSegment, hk, hg]

/-- A refreshed payload is active at once in STOPPED and HALTED, and staged otherwise (R43). -/
theorem Segment.refreshed_eq (x : Segment) (e : EngineState) (p : Bytes) :
    x.refreshed e.atRest p
      = if e = .stopped ∨ e = .halted then { x with active := p, staged := none, age := 0 }
        else { x with staged := some p } := by
  rw [Segment.refreshed]
  simp only [EngineState.atRest_eq_true]

/-- The reply's mark for a staged payload. -/
theorem leBool_isSome (o : Option Bytes) : leBool o.isSome = [if o = none then 0 else 1] := by cases o <;> rfl

/-- READ SEGMENT of a record that is there. -/
theorem answerReadSegment_found {b : Bytes} {s : State} {k : SegmentIndex} {g : Segment}
    (hk : decodeIndex 32 b = .ok k) (hg : s.engine.segment k = some g) :
    answerReadSegment b s = (s, .ok
      (le1 g.index.val ++ le1 g.destination.code ++ le1 g.channel.val ++ le2 g.len ++ le1 g.freshness ++ le1 g.age
        ++ le1 (bitWeight g.stale 0 + bitWeight g.staged.isSome 1) ++ g.active ++ g.staged.getD [])) := by
  simp only [answerReadSegment, hk, hg]

/-- The flags byte of READ SEGMENT: bit 0 stale, bit 1 a staged payload (R40, R180). -/
theorem Segment.flags_eq (g : Segment) :
    bitWeight g.stale 0 + bitWeight g.staged.isSome 1
      = (if g.freshness ≠ 0 ∧ g.freshness ≤ g.age then 1 else 0) + (if g.staged = none then 0 else 2) := by
  cases h : g.staged <;> simp [bitWeight, Segment.stale]

/-- Settles O19: the checks of both requests in order, the payload's way by the engine state, and the record read. -/
theorem updateAndReadSegment : Obligations.UpdateAndReadSegment := by
  unfold Obligations.UpdateAndReadSegment
  refine ⟨fun tag b s h => ?_, fun tag b s h => ?_⟩
  · have hrefuse {st : Status} (ha : answerUpdateSegment b s = s.refuse st) :=
      exec_of_refused (q := .updateSegment) h ha
    refine ⟨fun hb => hrefuse (by rw [answerUpdateSegment, decodeUpdateSegment_badLength hb]),
      fun hmin hmax hv => hrefuse (by rw [answerUpdateSegment, decodeUpdateSegment_badValue hmin hmax hv]),
      fun k hmin hmax hk => ?_⟩
    have hdecode := decodeUpdateSegment_ok hmin hmax hk
    refine ⟨fun hnone => hrefuse (by simp only [answerUpdateSegment, hdecode, hnone]), fun g hg => ?_⟩
    have hanswer := answerUpdateSegment_found hdecode hg
    simp only [Segment.refreshed_eq, leBool_isSome, Segment.len] at hanswer
    simp only [ite_not (_ = k)]
    split_ifs at hanswer ⊢
    · exact hrefuse hanswer
    all_goals exact exec_of_ok (q := .updateSegment) h hanswer
  · have hrefuse {st : Status} (ha : answerReadSegment b s = s.refuse st) :=
      exec_of_refused (q := .readSegment) h ha
    refine ⟨fun hb => hrefuse (by rw [answerReadSegment, decodeIndex_badLength hb]),
      fun hb hv => hrefuse (by rw [answerReadSegment, decodeIndex_badValue hb hv]), fun k hb hk => ?_⟩
    have hdecode := decodeIndex_ok hb hk
    refine ⟨fun hnone => hrefuse (by simp only [answerReadSegment, hdecode, hnone]), fun g hg => ?_⟩
    refine (exec_of_ok (q := .readSegment) h (answerReadSegment_found hdecode hg)).trans ?_
    rw [Segment.flags_eq]
    cases g.destination <;> cases g.staged <;> rfl

end Sys2Proof.Machine
end

section
namespace Sys2Proof.Machine

/-! ## The end of a STOPPING round, and the line fault (O45) -/

/-- ROUND_END_STOPPING on a QUIET line at the round's end. -/
theorem exec_roundEndStopping {s : State} {m : Time} (hheld : s.held = false) (hq : s.isQuiet = true)
    (hs : s.engine.state = .stopping) (hm : s.engine.roundEnd = some m) (hc : s.comes m) :
    exec .roundEndStopping s = .next (s.upTo m).enterStopped := by
  have hdue : s.dueAt .roundEnd = some m := by rw [State.dueAt, if_pos ⟨hs, hq⟩, hm]
  show Host.Outcome.next _ = _
  rw [State.whenFree_of_free hheld, hdue, State.atMoment_comes hc]

/-! ### The count -/

theorem State.bits_eq_mul (s : State) (n : Nat) : s.bits n = n * s.bits 1 := by
  simp only [State.bits, LineConfig.bits, Nat.one_mul]

/-- The monitor that the ended bit times without a given level have brought up to date. -/
theorem StuckMonitor.caughtUp_eq (m : StuckMonitor) (bit now : Time) :
    m.caughtUp bit now
      = if (now - m.countedTo) / bit = 0 then m else ⟨m.countedTo + (now - m.countedTo) / bit * bit, 0⟩ := by
  simp only [StuckMonitor.caughtUp, Nat.pos_iff_ne_zero, ite_not]

/-- `lows` is the count after each of these samples, for a monitor that starts with `lows 0` (R21). -/
def countsLows (levels : List Bool) (lows : Nat → Nat) : Prop :=
  ∀ j high, levels[j]? = some high → lows (j + 1) = if high = true then 0 else lows j + 1

section
variable {m : StuckMonitor} {levels : List Bool} {lows : Nat → Nat} {stuck k : Nat} (bit : Time)

/-- One sample is counted, and ends the count when it reaches `stuck`. -/
theorem StuckMonitor.countAll_drop (c : Time) (h : countsLows levels lows) (hk : k < levels.length) :
    StuckMonitor.countAll ⟨c, lows k⟩ bit stuck (levels.drop k)
      = if stuck ≤ lows (k + 1) then ⟨c + bit, lows (k + 1)⟩
        else StuckMonitor.countAll ⟨c + bit, lows (k + 1)⟩ bit stuck (levels.drop (k + 1)) := by
  rw [List.drop_eq_getElem_cons hk, StuckMonitor.countAll, StuckMonitor.count,
    h k levels[k] (List.getElem?_eq_getElem hk)]

/-- Samples that leave the count below `stuck` are counted one after the other. -/
theorem StuckMonitor.countAll_counted (h : countsLows levels lows) (h0 : lows 0 = m.lows) (hk : k ≤ levels.length)
    (hbelow : ∀ i, 1 ≤ i → i ≤ k → lows i < stuck) :
    m.countAll bit stuck levels
      = StuckMonitor.countAll ⟨m.countedTo + k * bit, lows k⟩ bit stuck (levels.drop k) := by
  induction k with
  | zero => rw [h0, Nat.zero_mul]; rfl
  | succ k ih =>
    rw [ih (Nat.le_of_succ_le hk) fun i h1 hi => hbelow i h1 (Nat.le_succ_of_le hi),
      StuckMonitor.countAll_drop bit _ h hk,
      if_neg (Nat.not_le.mpr (hbelow (k + 1) (Nat.succ_pos k) (Nat.le_refl _))), Nat.succ_mul, Nat.add_assoc]

/-- Below `stuck` to the end: every sample is counted. -/
theorem StuckMonitor.countAll_below (h : countsLows levels lows) (h0 : lows 0 = m.lows)
    (hbelow : ∀ i, 1 ≤ i → i ≤ levels.length → lows i < stuck) :
    m.countAll bit stuck levels = ⟨m.countedTo + levels.length * bit, lows levels.length⟩ := by
  rw [StuckMonitor.countAll_counted bit h h0 (Nat.le_refl _) hbelow, List.drop_length]
  rfl

/-- The first sample that brings the count to `stuck` is the last one counted. -/
theorem StuckMonitor.countAll_reached (h : countsLows levels lows) (h0 : lows 0 = m.lows) (h1 : 1 ≤ k)
    (hk : k ≤ levels.length) (hbelow : ∀ i, 1 ≤ i → i < k → lows i < stuck) (hreach : stuck ≤ lows k) :
    m.countAll bit stuck levels = ⟨m.countedTo + k * bit, lows k⟩ := by
  obtain ⟨j, rfl⟩ : ∃ j, k = j + 1 := ⟨k - 1, by omega⟩
  rw [StuckMonitor.countAll_counted bit h h0 (Nat.le_of_succ_le hk) fun i h1 hi => hbelow i h1 (Nat.lt_succ_of_le hi),
    StuckMonitor.countAll_drop bit _ h hk, if_pos hreach, Nat.succ_mul, Nat.add_assoc]

end

/-! ### LINE_FAULT -/

theorem EngineState.inRun_iff {e : EngineState} : e.inRun = true ↔ e = .settling ∨ e = .running ∨ e = .stopping := by
  cases e <;> decide

/-- LINE_FAULT with samples that bring the monitor to `mon`. -/
theorem exec_lineFault {s : State} {levels : List Bool} {mon : StuckMonitor} (hheld : s.held = false)
    (hmon : s.stuckAfter levels = some mon) (hc : s.comes mon.countedTo) :
    exec (.lineFault levels) s = .next ((s.upTo mon.countedTo).monitored mon) := by
  show Host.Outcome.next _ = _
  rw [State.whenFree_of_free hheld, hmon]
  exact congrArg _ (State.atMoment_comes hc _)

theorem State.monitored_reached {s : State} {mon : StuckMonitor} (h : s.line.config.stuckTime ≤ mon.lows) :
    s.monitored mon = s.enterHalted := if_pos h

theorem State.monitored_below {s : State} {mon : StuckMonitor} (h : mon.lows < s.line.config.stuckTime) :
    s.monitored mon = s.setActivity (.quiet mon) := if_neg (Nat.not_le.mpr h)

/-- Outside QUIET, and out of a run, the monitor does not run. -/
theorem State.stuckAfter_none {s : State} (levels : List Bool)
    (h : s.isQuiet = false ∨ s.engine.state = .stopped ∨ s.engine.state = .halted) : s.stuckAfter levels = none := by
  refine Option.eq_none_iff_forall_ne_some.mpr fun m hm => ?_
  obtain ⟨q, hact, hrun, -⟩ := State.stuckAfter_eq_some.mp hm
  rcases h with h | h | h
  · rw [State.isQuiet_iff.mpr ⟨q, hact⟩] at h; cases h
  · rw [h] at hrun; cases hrun
  · rw [h] at hrun; cases hrun

/-- Settles O45: the end of a STOPPING round, and the line fault at the sample that brings the count to stuck_time. -/
theorem roundEndAndLineFault : Obligations.RoundEndAndLineFault := by
  unfold Obligations.RoundEndAndLineFault
  intro s u m st hheld hc hu
  refine ⟨fun hst hs hq hm => ?_, fun kept mon n levels lows hrun hact hn hmon h0 hlows => ⟨?_, ?_⟩, fun levels h => ?_⟩
  · rw [exec_roundEndStopping hheld hq hs hm hc, hu, hst]; rfl
  · intro k hst h1 hk hbelow hreach hm
    have hafter : s.stuckAfter levels = some ⟨m, lows k⟩ := by
      refine State.stuckAfter_eq_some.mpr ⟨kept, hact, EngineState.inRun_iff.mpr hrun, ?_⟩
      rw [StuckMonitor.caughtUp_eq, ← hn, ← hmon, StuckMonitor.countAll_reached _ hlows h0 h1 hk hbelow hreach,
        ← State.bits_eq_mul, ← hm]
    rw [exec_lineFault hheld hafter hc, State.monitored_reached hreach, hu, hst]; rfl
  · intro h1 hbelow hm
    have hafter : s.stuckAfter levels = some ⟨m, lows levels.length⟩ := by
      refine State.stuckAfter_eq_some.mpr ⟨kept, hact, EngineState.inRun_iff.mpr hrun, ?_⟩
      rw [StuckMonitor.caughtUp_eq, ← hn, ← hmon, StuckMonitor.countAll_below _ hlows h0 hbelow,
        ← State.bits_eq_mul, ← hm]
    rw [exec_lineFault hheld hafter hc, State.monitored_below (hbelow _ h1 (Nat.le_refl _))]; rfl
  · show Host.Outcome.next _ = _
    rw [State.whenFree_of_free hheld, State.stuckAfter_none levels h]

end Sys2Proof.Machine
end

section
namespace Sys2Proof.Machine

/-! ## The layout of a round (O41) -/

/-! ### The slots of the segments -/

/-- The place of the `j`-th record when the segments' STARTs are `start`. -/
def slotAt (start : Nat → Nat) (j : Nat) (g : Segment) : Slot :=
  { index := g.index, start := start j, stop := start j + longFrame g.len }

/-- Each START follows the frame before it by the lead-in of a later segment (R35). -/
def startsFollow (ln : LineConfig) (rc : RoundConfig) (table : List Segment) (start : Nat → Nat) : Prop :=
  ∀ j g, table[j]? = some g → start (j + 1) = start j + longFrame g.len + laterLead ln rc

theorem slotsFrom_getElem? {ln : LineConfig} {rc : RoundConfig} {first : Bool} {free : Nat} {table : List Segment}
    {start : Nat → Nat} (h0 : start 0 = free + leadIn ln rc first) (hs : startsFollow ln rc table start) (j : Nat) :
    (slotsFrom ln rc first free table)[j]? = table[j]?.map (slotAt start j) := by
  induction table generalizing first free start j with
  | nil => rfl
  | cons g rest ih =>
    cases j with
    | zero => simp only [slotsFrom, List.getElem?_cons_zero, Option.map_some, slotAt, h0]
    | succ j =>
      have h1 : start (0 + 1) = free + leadIn ln rc first + longFrame g.len + leadIn ln rc false := by
        rw [hs 0 g rfl, h0, leadIn_later]
      rw [slotsFrom, List.getElem?_cons_succ, List.getElem?_cons_succ]
      exact ih (start := fun i => start (i + 1)) h1 (fun i x hx => hs (i + 1) x hx) j

/-- The last segment ends where D ends (R35). -/
theorem slotsFrom_last_stop {ln : LineConfig} {rc : RoundConfig} {first : Bool} {free : Nat} {table : List Segment}
    {x : Slot} (h : (slotsFrom ln rc first free table).getLast? = some x) :
    x.stop = free + segmentsBits ln rc first table := by
  induction table generalizing first free with
  | nil => cases h
  | cons g rest ih =>
    cases rest with
    | nil =>
      simp only [slotsFrom, List.getLast?_singleton, Option.some.injEq] at h
      simp only [← h, segmentsBits]; ring
    | cons g' rest =>
      rw [slotsFrom, slotsFrom, List.getLast?_cons_cons, ← slotsFrom] at h
      rw [ih h]
      simp only [segmentsBits]; ring

theorem slotsFrom_bounds {ln : LineConfig} {rc : RoundConfig} {first : Bool} {free : Nat} {table : List Segment}
    {x : Slot} (h : x ∈ slotsFrom ln rc first free table) : free ≤ x.start ∧ x.start ≤ x.stop := by
  induction table generalizing first free with
  | nil => cases h
  | cons g rest ih =>
    rw [slotsFrom] at h
    rcases List.mem_cons.mp h with rfl | h
    · exact ⟨Nat.le_add_right _ _, Nat.le_add_right _ _⟩
    · obtain ⟨hfree, hstop⟩ := ih h
      exact ⟨by omega, hstop⟩

/-- A frame ends before the next one starts. -/
theorem slotsFrom_pairwise (ln : LineConfig) (rc : RoundConfig) (first : Bool) (free : Nat) (table : List Segment) :
    (slotsFrom ln rc first free table).Pairwise fun x y => x.stop ≤ y.start := by
  induction table generalizing first free with
  | nil => exact .nil
  | cons g rest ih => exact .cons (fun y hy => (slotsFrom_bounds hy).1) (ih _ _)

/-! ### The items of the layout -/

/-- Two neighbours of a list with this property. -/
def neighbours {α : Type} (l : List α) (P : α → α → Prop) : Prop :=
  ∃ j x y, l[j]? = some x ∧ l[j + 1]? = some y ∧ P x y

theorem neighbours_cons_cons {α : Type} {x y : α} {rest : List α} {P : α → α → Prop} :
    neighbours (x :: y :: rest) P ↔ P x y ∨ neighbours (y :: rest) P := by
  constructor
  · rintro ⟨_ | j, a, b, ha, hb, h⟩
    · cases ha; cases hb; exact Or.inl h
    · exact Or.inr ⟨j, a, b, ha, hb, h⟩
  · rintro (h | ⟨j, a, b, ha, hb, h⟩)
    · exact ⟨0, x, y, rfl, rfl, h⟩
    · exact ⟨j + 1, a, b, ha, hb, h⟩

theorem not_neighbours_singleton {α : Type} {x : α} {P : α → α → Prop} : ¬ neighbours [x] P := by
  rintro ⟨j, a, b, -, hb, -⟩
  cases hb

/-- The items of the layout: the segments, the closing gap behind the last one, and the segment gaps (R36, R37). -/
theorem mem_agendaFrom {ln : LineConfig} {rc : RoundConfig} {t0 ends : Time} {l : List Slot} {it : RoundItem} :
    it ∈ agendaFrom ln rc t0 ends l ↔
      (∃ x ∈ l, it = .segment (t0 + ln.bits x.start) x.index)
      ∨ (∃ x, l.getLast? = some x ∧ it = .gap (t0 + ln.bits x.stop) .closing ends)
      ∨ (0 < rc.segmentGap ∧ neighbours l fun x y =>
          it = .gap (t0 + ln.bits x.stop) (.afterSegment x.index) (t0 + ln.bits y.start)) := by
  induction l using agendaFrom.induct with
  | case1 => simp [agendaFrom, neighbours]
  | case2 x => simp [agendaFrom, not_neighbours_singleton]
  | case3 x y rest ih =>
    rw [agendaFrom, List.mem_cons, List.mem_append, ih, neighbours_cons_cons, List.getLast?_cons_cons,
      List.exists_mem_cons_iff (a := x)]
    by_cases hgap : 0 < rc.segmentGap
    · simp only [hgap, if_true, List.mem_singleton, true_and, or_assoc, or_left_comm]
    · simp only [hgap, if_false, List.not_mem_nil, false_and, false_or, or_false, or_assoc]

/-- The moment of an item of the layout. -/
def RoundItem.due : RoundItem → Time
  | .segment d _ => d
  | .gap d _ _ => d

theorem LineConfig.bits_mono (ln : LineConfig) (t0 : Time) {a b : Nat} (h : a ≤ b) :
    t0 + ln.bits a ≤ t0 + ln.bits b := Nat.add_le_add_left (Nat.mul_le_mul_right _ h) t0

/-- No item comes before the first segment's START. -/
theorem le_due_of_mem_agendaFrom {ln : LineConfig} {rc : RoundConfig} {t0 ends : Time} {l : List Slot}
    {it : RoundItem} {t : Nat} (hl : ∀ x ∈ l, t ≤ x.start ∧ x.start ≤ x.stop)
    (h : it ∈ agendaFrom ln rc t0 ends l) : t0 + ln.bits t ≤ it.due := by
  rcases mem_agendaFrom.mp h with ⟨x, hx, rfl⟩ | ⟨x, hx, rfl⟩ | ⟨-, j, x, y, hx, -, rfl⟩
  · exact ln.bits_mono t0 (hl x hx).1
  · have hmem := hl x (List.mem_of_getLast? hx)
    exact ln.bits_mono t0 (hmem.1.trans hmem.2)
  · have hmem := hl x (List.mem_of_getElem? hx)
    exact ln.bits_mono t0 (hmem.1.trans hmem.2)

/-- The items are in order of time when the frames are. -/
theorem agendaFrom_pairwise {ln : LineConfig} {rc : RoundConfig} {t0 ends : Time} {l : List Slot}
    (hord : l.Pairwise fun x y => x.stop ≤ y.start) (hl : ∀ x ∈ l, x.start ≤ x.stop) :
    (agendaFrom ln rc t0 ends l).Pairwise fun a b => a.due ≤ b.due := by
  induction l using agendaFrom.induct with
  | case1 => exact .nil
  | case2 x => simpa [agendaFrom, RoundItem.due] using ln.bits_mono t0 (hl x (List.mem_singleton_self x))
  | case3 x y rest ih =>
    obtain ⟨hx, hrest⟩ := List.pairwise_cons.mp hord
    have hlrest : ∀ z ∈ y :: rest, z.start ≤ z.stop := fun z hz => hl z (List.mem_cons_of_mem _ hz)
    have hown : t0 + ln.bits x.start ≤ t0 + ln.bits x.stop := ln.bits_mono t0 (hl x (List.mem_cons_self ..))
    have hlater : ∀ it ∈ agendaFrom ln rc t0 ends (y :: rest), t0 + ln.bits x.stop ≤ it.due := fun it hit =>
      le_due_of_mem_agendaFrom (fun z hz => ⟨hx z hz, hlrest z hz⟩) hit
    rw [agendaFrom]
    refine .cons (fun it hit => ?_) (List.pairwise_append.mpr ⟨?_, ih hrest hlrest, fun a ha b hb => ?_⟩)
    · rcases List.mem_append.mp hit with hit | hit
      · obtain rfl := List.mem_singleton.mp (by split at hit <;> [exact hit; cases hit])
        exact hown
      · exact hown.trans (hlater it hit)
    · split <;> simp
    · obtain rfl := List.mem_singleton.mp (by split at ha <;> [exact ha; cases ha])
      exact hlater b hb

/-! ### The whole round -/

theorem agenda_nil (ln : LineConfig) (rc : RoundConfig) (t0 : Time) :
    agenda ln rc [] t0 = [.gap (t0 + ln.bits shortFrame) .closing (t0 + micros rc.length)] := rfl

theorem agenda_cons (ln : LineConfig) (rc : RoundConfig) (g : Segment) (rest : List Segment) (t0 : Time) :
    agenda ln rc (g :: rest) t0 = agendaFrom ln rc t0 (t0 + micros rc.length) (slots ln rc (g :: rest)) := rfl

/-- The items of a round from its start, with the segments' STARTs at `start` (R35 to R37). -/
theorem mem_agenda {ln : LineConfig} {rc : RoundConfig} {table : List Segment} {t0 : Time} {start : Nat → Nat}
    (h0 : start 0 = 80) (hs : startsFollow ln rc table start) {it : RoundItem} :
    it ∈ agenda ln rc table t0 ↔
      (∃ j g, table[j]? = some g ∧ it = .segment (t0 + ln.bits (start j)) g.index)
      ∨ it = .gap (t0 + ln.bits (fixedPart ln rc table)) .closing (t0 + micros rc.length)
      ∨ (0 < rc.segmentGap ∧ ∃ j g, table[j]? = some g ∧ j + 1 < table.length ∧
          it = .gap (t0 + ln.bits (start j + longFrame g.len)) (.afterSegment g.index)
            (t0 + ln.bits (start (j + 1)))) := by
  cases table with
  | nil => simp [agenda_nil, fixedPart, segmentsBits]
  | cons g0 rest =>
    have hslot (j : Nat) : (slots ln rc (g0 :: rest))[j]? = (g0 :: rest)[j]?.map (slotAt start j) :=
      slotsFrom_getElem? (by rw [h0, leadIn_first]; rfl) hs j
    rw [agenda_cons, mem_agendaFrom]
    refine or_congr ?_ (or_congr ?_ (and_congr_right fun _ => ?_))
    · constructor
      · rintro ⟨x, hx, rfl⟩
        obtain ⟨j, hj⟩ := List.mem_iff_getElem?.mp hx
        obtain ⟨g, hg, rfl⟩ := Option.map_eq_some_iff.mp (hslot j ▸ hj)
        exact ⟨j, g, hg, rfl⟩
      · rintro ⟨j, g, hg, rfl⟩
        exact ⟨slotAt start j g, List.mem_iff_getElem?.mpr ⟨j, by rw [hslot, hg]; rfl⟩, rfl⟩
    · have hstop {x : Slot} (hx : (slots ln rc (g0 :: rest)).getLast? = some x) :
          x.stop = fixedPart ln rc (g0 :: rest) := slotsFrom_last_stop hx
      constructor
      · rintro ⟨x, hx, rfl⟩
        rw [hstop hx]
      · rintro rfl
        have hx := List.getLast?_eq_some_getLast (l := slots ln rc (g0 :: rest)) nofun
        exact ⟨_, hx, by rw [hstop hx]⟩
    · constructor
      · rintro ⟨j, x, y, hx, hy, rfl⟩
        obtain ⟨g, hg, rfl⟩ := Option.map_eq_some_iff.mp (hslot j ▸ hx)
        obtain ⟨g', hg', rfl⟩ := Option.map_eq_some_iff.mp (hslot (j + 1) ▸ hy)
        exact ⟨j, g, hg, (List.getElem?_eq_some_iff.mp hg').1, rfl⟩
      · rintro ⟨j, g, hg, hj, rfl⟩
        exact ⟨j, slotAt start j g, slotAt start (j + 1) (g0 :: rest)[j + 1], by rw [hslot, hg]; rfl,
          by rw [hslot, List.getElem?_eq_getElem hj]; rfl, rfl⟩

/-- The items of a round are in order of time. -/
theorem agenda_pairwise (ln : LineConfig) (rc : RoundConfig) (table : List Segment) (t0 : Time) :
    (agenda ln rc table t0).Pairwise fun a b => a.due ≤ b.due := by
  cases table with
  | nil => exact List.pairwise_singleton ..
  | cons g rest =>
    rw [agenda_cons, slots]
    exact agendaFrom_pairwise (slotsFrom_pairwise ..) fun x hx => (slotsFrom_bounds hx).2

/-- Settles O41: the items of each kind, and their order. -/
theorem layoutOfARound : Obligations.LayoutOfARound := by
  unfold Obligations.LayoutOfARound
  intro ln rc table t0 start h0 hs
  have hmem {it : RoundItem} := mem_agenda (t0 := t0) h0 (table := table) hs (it := it)
  refine ⟨fun d k => ?_, fun d k e => ?_, (agenda_pairwise ln rc table t0).imp fun {x y} h => ?_⟩
  · simp [hmem, and_comm]
  · rw [hmem, RoundConfig.length_eq]
    simp only [RoundItem.gap.injEq, reduceCtorEq, and_false, exists_false, false_or, Nat.pos_iff_ne_zero, longFrame,
      and_left_comm (b := k = _)]
  · cases x <;> cases y <;> exact h

end Sys2Proof.Machine
end

section
namespace Sys2Proof.Machine

/-! ## What the start of a round does (O39) -/

/-! ### Occurrences and completions look at the round counter alone of the engine -/

theorem State.occur_setEngine {s : State} {e : Engine} (h : e.counter = s.engine.counter) (src : SourceId) (d : Detail) :
    (s.setEngine e).occur src d = (s.occur src d).setEngine e := by
  unfold State.occur
  rw [State.setEngine_engine, h]
  by_cases hq : (s.source src).latched = true ∨ (s.source src).masked = true
  · rw [if_pos hq]
    exact if_pos hq
  · rw [if_neg hq]
    exact if_neg hq

theorem State.staleOccurrences_setEngine {s : State} {e : Engine} (h : e.counter = s.engine.counter)
    (l : List SegmentIndex) : (s.setEngine e).staleOccurrences l = (s.staleOccurrences l).setEngine e := by
  induction l generalizing s with
  | nil => rfl
  | cons k rest ih =>
    rw [State.staleOccurrences, State.occur_setEngine h, ih (by rw [h, State.occur_engine]), State.staleOccurrences]

theorem State.queueCompletions_setEngine {s : State} {e : Engine} (h : e.counter = s.engine.counter) (o : TxnOutcome)
    (l : List Record) : (s.setEngine e).queueCompletions o l = (s.queueCompletions o l).setEngine e := by
  induction l generalizing s with
  | nil => rfl
  | cons r rest ih =>
    rw [State.queueCompletions, State.queueCompletions, ← ih (by exact h), State.setEngine_engine, h]
    rfl

theorem State.completeAll_setEngine {s : State} {e : Engine} (h : e.counter = s.engine.counter) (p : Record → Bool)
    (o : TxnOutcome) : (s.setEngine e).completeAll p o = (s.completeAll p o).setEngine e :=
  State.queueCompletions_setEngine (s := s.setTxns (s.txns.filter fun r => !r.pendingHost p)) h o _

theorem State.staleOccurrences_eq_foldl (s : State) (l : List SegmentIndex) :
    s.staleOccurrences l = l.foldl (fun x k => x.occur srcSegmentStale (.segment k)) s := by
  induction l generalizing s with
  | nil => rfl
  | cons k rest ih => exact ih _

/-! ### The parts of a round start, with the engine's new value put last -/

section
variable {u : State} {e : Engine} (h : e.counter = u.engine.counter)
include h

theorem State.enterRunning_setEngine :
    (u.setEngine e).enterRunning
      = (if e.state = .settling then u.occur srcEngineState (.engine .running) else u).setEngine
          { e with state := if e.state = .settling then .running else e.state } := by
  rw [State.enterRunning, State.setEngine_engine, State.setEngine_setEngine]
  split
  · exact State.occur_setEngine (by exact h) _ _
  · rfl

theorem State.commitTable_setEngine :
    (u.setEngine e).commitTable
      = (u.staleOccurrences ((e.table.filter Segment.becomesStale).map Segment.index)).setEngine
          { e with table := e.table.map Segment.commit } := by
  rw [State.commitTable, State.setEngine_engine, State.setEngine_setEngine]
  exact State.staleOccurrences_setEngine (by exact h) _

theorem State.sweepAndAnchor_setEngine :
    (u.setEngine e).sweepAndAnchor
      = ((u.completeAll (Record.sweptAt e.counter) .expired).setEngine e).setTxns
          ((u.completeAll (Record.sweptAt e.counter) .expired).txns.map (Record.atRoundStart e.counter)) := by
  rw [State.sweepAndAnchor, State.setEngine_engine, State.completeAll_setEngine h, State.setEngine_txns]

theorem State.handOver_setEngine {v w : State}
    (hv : (if e.state = .settling then u.occur srcEngineState (.engine .running) else u) = v)
    (hw : (v.staleOccurrences ((e.table.filter Segment.becomesStale).map Segment.index)).completeAll
      (Record.sweptAt e.counter) .expired = w) :
    (u.setEngine e).enterRunning.commitTable.sweepAndAnchor
      = (w.setEngine { e with
            state := if e.state = .settling then .running else e.state
            table := e.table.map Segment.commit }).setTxns (w.txns.map (Record.atRoundStart e.counter)) := by
  have hcounter : e.counter = v.engine.counter := by
    rw [h, ← hv]
    split <;> simp
  rw [State.enterRunning_setEngine h, hv, State.commitTable_setEngine (by exact hcounter),
    State.sweepAndAnchor_setEngine (by rw [State.staleOccurrences_engine]; exact hcounter)]
  exact hw ▸ rfl

end

/-- The engine at a round start, before the layout (R28 steps 2 to 5). -/
def Engine.atRoundStart (e : Engine) (now : Time) : Engine :=
  { e.raised now with
    state := if e.state = .settling then .running else e.state
    table := e.table.map Segment.commit }

/-- The state in which the occurrences and completions of a round start have been made, in their order: MISSING, RUNNING,
SEGMENT_STALE, the sweep (R28, R33, R46, R63). -/
def State.roundReports (s : State) (missing : Bool) : State :=
  let u := (if missing = true then s.occur srcTrigger .missing else s).setEngine
    { s.engine with counter := s.engine.counter + 1 }
  let v := if s.engine.state = .settling then u.occur srcEngineState (.engine .running) else u
  (v.staleOccurrences ((s.engine.table.filter Segment.becomesStale).map Segment.index)).completeAll
    (Record.sweptAt (s.engine.counter + 1)) .expired

section
variable (s : State) (missing : Bool)

theorem State.roundReports_now : (s.roundReports missing).now = s.now := by
  unfold State.roundReports
  split_ifs <;> simp

theorem State.roundReports_line : (s.roundReports missing).line = s.line := by
  unfold State.roundReports
  split_ifs <;> simp

theorem State.roundReports_stations : (s.roundReports missing).stations = s.stations := by
  unfold State.roundReports
  split_ifs <;> simp

/-- A round start: its reports, the engine, the list, the internal records, the SYNC and the layout. -/
theorem State.startRound_eq :
    s.startRound missing
      = (((((s.roundReports missing).setEngine (s.engine.atRoundStart s.now)).setTxns
          ((s.roundReports missing).txns.map (Record.atRoundStart (s.engine.counter + 1)))).generate
            allStations).sendSync).layRound := by
  have hengine : (if missing = true then s.occur srcTrigger .missing else s).engine = s.engine := by split <;> simp
  unfold State.startRound State.roundReports
  dsimp only
  rw [hengine, ← State.setEngine_setEngine _ { s.engine with counter := s.engine.counter + 1 },
    State.handOver_setEngine (by rfl) rfl rfl]
  rfl

end

/-! ### The internal records of a round start -/

/-- What the schedule calls for at the station when it has no internal record (R88). -/
def State.call (s : State) (i : StationId) : Option TxnKind :=
  if (s.txns.any fun r => !r.isHost && r.names i) = true then none else (s.station i).calls s.engine.counter

theorem State.internalOf_isSome (s : State) (i : StationId) :
    (s.internalOf i).isSome = s.txns.any fun r => !r.isHost && r.names i := by
  rw [State.internalOf, Bool.eq_iff_iff, List.find?_isSome, List.any_eq_true]

theorem State.generateFor_none {s : State} {i : StationId} (h : s.call i = none) : s.generateFor i = s := by
  rw [State.generateFor, State.internalOf_isSome]
  rw [State.call] at h
  split_ifs at h ⊢
  · rfl
  · rw [h]

theorem State.generateFor_some {s : State} {i : StationId} {k : TxnKind} (h : s.call i = some k) :
    s.generateFor i
      = (s.setTxns (s.txns ++ [internalRecord k i s.engine.counter])).setStation i
          ((s.station i).generated k s.engine.counter) := by
  rw [State.generateFor, State.internalOf_isSome]
  rw [State.call] at h
  split_ifs at h ⊢
  rw [h]

theorem internalRecord_names {i j : StationId} (h : j ≠ i) (k : TxnKind) (c : Round) :
    (internalRecord k i c).names j = false := by
  simp [internalRecord, Record.names, h.symm]

theorem State.generateFor_station_of_ne {s : State} {i j : StationId} (h : j ≠ i) :
    (s.generateFor i).station j = s.station j := by
  cases hc : s.call i with
  | none => rw [State.generateFor_none hc]
  | some k => rw [State.generateFor_some hc, State.station_setStation, if_neg h]; rfl

/-- The record appended for one station is no matter of another's. -/
theorem State.call_generateFor {s : State} {i j : StationId} (h : j ≠ i) : (s.generateFor i).call j = s.call j := by
  have hany : ((s.generateFor i).txns.any fun r => !r.isHost && r.names j)
      = s.txns.any fun r => !r.isHost && r.names j := by
    cases hc : s.call i with
    | none => rw [State.generateFor_none hc]
    | some k => simp [State.generateFor_some hc, internalRecord_names h]
  rw [State.call, hany, State.generateFor_station_of_ne h, State.generateFor_engine, State.call]

/-- The records appended for these stations, in their order (R88). -/
theorem State.generate_txns {s : State} {l : List StationId} (h : l.Nodup) :
    (s.generate l).txns
      = s.txns ++ l.filterMap fun i => (s.call i).map fun k => internalRecord k i s.engine.counter := by
  induction l generalizing s with
  | nil => simp [State.generate]
  | cons i rest ih =>
    obtain ⟨hi, hrest⟩ := List.nodup_cons.mp h
    have hcall : rest.filterMap (fun j => ((s.generateFor i).call j).map fun k => internalRecord k j s.engine.counter)
        = rest.filterMap fun j => (s.call j).map fun k => internalRecord k j s.engine.counter :=
      List.filterMap_congr fun j hj => by rw [State.call_generateFor (ne_of_mem_of_not_mem hj hi)]
    rw [State.generate, ih hrest, State.generateFor_engine, hcall]
    cases hc : s.call i with
    | none => simp [State.generateFor_none hc, hc]
    | some k => simp [State.generateFor_some hc, hc]

theorem State.generate_station_of_not_mem {s : State} {l : List StationId} {j : StationId} (h : j ∉ l) :
    (s.generate l).station j = s.station j := by
  induction l generalizing s with
  | nil => rfl
  | cons i rest ih =>
    obtain ⟨hi, hrest⟩ := not_or.mp (mt List.mem_cons.mpr h)
    rw [State.generate, ih hrest, State.generateFor_station_of_ne hi]

/-- The bookkeeping of a station among these (R89, R125). -/
theorem State.generate_station {s : State} {l : List StationId} {j : StationId} (h : l.Nodup) (hj : j ∈ l) :
    (s.generate l).station j
      = match s.call j with
        | none => s.station j
        | some k => (s.station j).generated k s.engine.counter := by
  induction l generalizing s with
  | nil => cases hj
  | cons i rest ih =>
    obtain ⟨hi, hrest⟩ := List.nodup_cons.mp h
    rw [State.generate]
    by_cases hji : j = i
    · subst hji
      rw [State.generate_station_of_not_mem hi]
      cases hc : s.call j with
      | none => rw [State.generateFor_none hc]
      | some k => rw [State.generateFor_some hc, State.station_setStation, if_pos rfl]
    · rw [ih hrest ((List.mem_cons.mp hj).resolve_left hji), State.call_generateFor hji,
        State.generateFor_station_of_ne hji, State.generateFor_engine]

/-- Only POLLs and PROBEs are called for. -/
theorem Station.calls_cases {st : Station} {c : Round} {k : TxnKind} (h : st.calls c = some k) :
    k = .poll ∨ k = .probe := by
  unfold Station.calls at h
  split at h
  · cases h
  · split at h
    · exact Or.inr (Option.some.inj h).symm
    · cases h
  · exact Or.inr (Option.some.inj h).symm
  all_goals
    split at h
    · exact Or.inl (Option.some.inj h).symm
    · cases h

theorem State.call_cases {s : State} {i : StationId} {k : TxnKind} (h : s.call i = some k) : k = .poll ∨ k = .probe := by
  rw [State.call] at h
  split at h
  · cases h
  · exact Station.calls_cases h

/-! ### The spec's own words for the parts -/

theorem Segment.commit_eq :
    Segment.commit = fun g => match g.staged with
      | some p => { g with active := p, staged := none, age := 0 }
      | none => { g with age := min 255 (g.age + 1) } := by
  funext g
  cases h : g.staged <;> simp only [Segment.commit, h]

/-- A commit leaves no record stale; without one the age rises, and may reach the freshness (R45, R46). -/
theorem Segment.becomesStale_eq :
    Segment.becomesStale = fun g => decide (¬ (g.freshness ≠ 0 ∧ g.freshness ≤ g.age) ∧ g.freshness ≠ 0
      ∧ g.staged = none ∧ g.freshness ≤ min 255 (g.age + 1)) := by
  funext g
  rw [Segment.becomesStale, Segment.commit, Bool.eq_iff_iff]
  cases h : g.staged with
  | none => simp [Segment.stale]
  | some p =>
    simp only [Segment.stale, Bool.and_eq_true, decide_eq_true_eq, reduceCtorEq, false_and, and_false, iff_false]
    omega

theorem Record.sweptAt_eq (now : Round) :
    Record.sweptAt now = fun r => match r.expiryRound with | some e => roundBefore e now | none => false := by
  funext r
  cases h : r.expiryRound <;> simp only [Record.sweptAt, h]

theorem Record.atRoundStart_eq (now : Round) :
    Record.atRoundStart now = fun r => match r.anchor with
      | some a => { r with due := r.due || decide (a.earliest = now) }
      | none => { r with
          anchor := some { earliest := now + BitVec.ofNat 32 r.delay,
                           expiry := match r.lifetime with
                             | some l => some (now + BitVec.ofNat 32 r.delay + BitVec.ofNat 32 l - 1)
                             | none => none },
          due := decide (now + BitVec.ofNat 32 r.delay = now) } := by
  funext r
  rw [Record.atRoundStart]
  cases r.anchor with
  | some a => rfl
  | none =>
    simp only [Record.anchored]
    cases r.lifetime <;> rfl

theorem Station.calls_eq (st : Station) (now : Round) :
    st.calls now = match st.state with
      | .disabled => none
      | .offline =>
        if st.probeDue = true ∨ st.probeInterval ≤ (now - st.lastProbeRound).toNat then some .probe else none
      | .resync => some .probe
      | .online | .suspect =>
        if st.pollInterval ≠ 0 ∧ st.pollInterval ≤ (now - st.lastPollRound).toNat then some .poll else none := by
  rw [Station.calls]
  cases st.state <;> simp only [Nat.pos_iff_ne_zero] <;> rfl

theorem Engine.atRoundStart_eq (e : Engine) (now : Time) :
    e.atRoundStart now = { e with
      state := if e.state = .settling then .running else e.state,
      counter := e.counter + 1, prevStart := some now, pendingStart := none, settleEnd := none,
      deadline := if e.config.mode = .timed then none else some (now + micros e.config.maxPeriod),
      table := e.table.map Segment.commit } := by
  rw [Engine.atRoundStart, Engine.raised]
  cases e.config.mode <;> rfl

theorem allStations_nodup : allStations.Nodup := by decide

theorem mem_allStations (i : StationId) : i ∈ allStations := by revert i; decide

/-- Settles O39: the reports of `State.roundReports`, and the rest of the state part by part. -/
theorem roundStartEffects : Obligations.RoundStartEffects := by
  unfold Obligations.RoundStartEffects
  intro s t u v w missing now table list call ht hnow htable hu hv hw hlist hcall
  have hw' : w = s.roundReports missing := by
    rw [hw, State.roundReports, ← State.staleOccurrences_eq_foldl, hv, hu, hnow, Segment.becomesStale_eq]
    exact congrArg (fun p => State.completeAll _ p .expired) (Record.sweptAt_eq _).symm
  have hlist' : list = (s.roundReports missing).txns.map (Record.atRoundStart now) :=
    hw' ▸ hlist.trans (congrArg (fun f => w.txns.map f) (Record.atRoundStart_eq now).symm)
  have htable' : table = s.engine.table.map Segment.commit :=
    htable.trans (congrArg (fun f => s.engine.table.map f) Segment.commit_eq.symm)
  generalize hx : ((s.roundReports missing).setEngine (s.engine.atRoundStart s.now)).setTxns list = x
  have hround : t = ((x.generate allStations).sendSync).layRound := by
    rw [ht, State.startRound_eq, ← hnow, ← hlist', hx]
  have hxengine : x.engine = s.engine.atRoundStart s.now := by rw [← hx]; rfl
  have hxcounter : x.engine.counter = now := by rw [hxengine, hnow]; rfl
  have hxstation (i : StationId) : x.station i = s.station i := by
    rw [← hx, State.station, State.station, ← State.roundReports_stations s missing]; rfl
  have hxcall (i : StationId) : x.call i = call i := by
    rw [hcall, State.call, hxstation, hxcounter, Station.calls_eq, ← hx]
    rfl
  have hxline : x.line = s.line := by rw [← hx, ← State.roundReports_line s missing]; rfl
  have hxnow : x.now = s.now := by rw [← hx, ← State.roundReports_now s missing]; rfl
  refine ⟨?_, ?_, ?_, ?_, ?_, fun i => ?_, ?_⟩
  · rw [hround, hw', ← hx]; simp
  · rw [hround, hw', ← hx]; simp
  · rw [hround, State.layRound, State.setEngine_engine]
    simp only [State.sendSync_engine, State.sendSync_config, State.sendSync_now, State.generate_engine,
      State.generate_line, State.generate_now, hxengine, hxline, hxnow, Engine.atRoundStart_eq, htable', hnow]
  · rw [hround, State.layRound_line, State.sendSync, State.setActivity, State.setLine_line]
    simp only [State.bits, State.generate_engine, State.generate_line, State.generate_now, hxcounter, hxline, hxnow]
    rfl
  · rw [hround, State.layRound_txns, State.sendSync_txns, State.generate_txns allStations_nodup, hxcounter]
    simp only [hxcall]
    rw [← hx]; rfl
  · have hi := State.generate_station (s := x) allStations_nodup (mem_allStations i)
    rw [hxcall, hxstation, hxcounter] at hi
    rw [hround, State.station, State.layRound_stations, State.sendSync_stations, ← State.station, hi]
    cases hc : call i with
    | none => rfl
    | some k => rcases State.call_cases ((hxcall i).trans hc) with rfl | rfl <;> rfl
  · subst ht; simp

end Sys2Proof.Machine
end

section
namespace Sys2Proof.Machine

/-! ## Bulk completions (O21) -/

/-- The completions that the Report Queue holds, as the admission count takes them (R55). -/
def State.completions (s : State) : Nat := s.reports.queue.countP fun r => r.isCompletion

theorem State.admission_eq (s : State) : s.admission = s.txns.countP (fun r => r.isHost) + s.completions := rfl

theorem numberedFrom_numbered (n : BitVec 16) (l : List ReportBody) : numberedFrom n (numbered n l) := by
  induction l generalizing n with
  | nil => trivial
  | cons b rest ih => exact ⟨rfl, ih (n + 1)⟩

theorem countP_isCompletion_numbered (n : BitVec 16) (l : List Completion) :
    (numbered n (l.map .completion)).countP (fun r => r.isCompletion) = l.length := by
  induction l generalizing n with
  | nil => rfl
  | cons c rest ih => rw [List.map_cons, numbered, List.countP_cons_of_pos rfl, ih, List.length_cons]

theorem State.queueCompletions_eq (s : State) (o : TxnOutcome) (l : List Record) :
    s.queueCompletions o l = s.setReports (s.queueCompletions o l).reports := by
  induction l generalizing s with
  | nil => rfl
  | cons r rest ih =>
    rw [State.queueCompletions, ih]
    rfl

/-- Of the blocks only the Transaction List and the Report Queue take part in a bulk completion. -/
theorem State.completeAll_eq (s : State) (p : Record → Bool) (o : TxnOutcome) :
    s.completeAll p o = (s.setTxns (s.completeAll p o).txns).setReports (s.completeAll p o).reports := by
  rw [State.completeAll_txns, State.completeAll, ← State.queueCompletions_eq]

theorem State.completeAll_completions (s : State) (p : Record → Bool) (o : TxnOutcome) :
    (s.completeAll p o).completions = s.completions + s.countMatching p := by
  have hmap (l : List Record) : l.map (fun r => ReportBody.completion (r.plainCompletion o s.engine.counter))
      = (l.map fun r => r.plainCompletion o s.engine.counter).map .completion := by
    rw [List.map_map]; rfl
  rw [State.completions, State.completeAll_reports, List.countP_append, hmap, countP_isCompletion_numbered,
    List.length_map, ← List.countP_eq_length_filter]
  rfl

/-- The host records of the list are those that a bulk completion completes and those that it leaves. -/
theorem State.countP_isHost_completeAll (s : State) (p : Record → Bool) (o : TxnOutcome) :
    (s.completeAll p o).txns.countP (fun r => r.isHost) + s.countMatching p = s.txns.countP fun r => r.isHost := by
  have hmatch : (s.txns.filter fun r => r.pendingHost p).countP (fun r => r.isHost) = s.countMatching p := by
    rw [List.countP_filter, State.countMatching]
    exact List.countP_congr fun r _ => by simp +contextual [Record.pendingHost]
  rw [State.completeAll_txns, List.countP_eq_countP_filter_add s.txns _ (fun r => r.pendingHost p), hmatch]
  exact Nat.add_comm _ _

/-- A record that completes gives its place in the admission count to its report (R55). -/
theorem State.completeAll_admission (s : State) (p : Record → Bool) (o : TxnOutcome) :
    (s.completeAll p o).admission = s.admission := by
  rw [State.admission_eq, State.admission_eq, State.completeAll_completions, ← s.countP_isHost_completeAll p o]
  omega

/-- Settles O21: the two blocks that `State.completeAll` writes, and the admission count over both. -/
theorem bulkCompletion : Obligations.BulkCompletion := by
  unfold Obligations.BulkCompletion
  intro s t p o ht
  subst ht
  refine ⟨s.completeAll_eq p o, s.completeAll_txns p o, ?_, ?_, ?_, ?_, s.completeAll_admission p o⟩ <;>
    rw [State.completeAll_reports]
  · exact List.take_left
  · rw [List.drop_left, numbered_map_body]; rfl
  · rw [List.drop_left]
    exact numberedFrom_numbered _ _
  · rfl

end Sys2Proof.Machine
end

section
namespace Sys2Proof.Machine

/-! ## Round numbers (O37) -/

/-- The difference of two rounds modulo 2^32, in numbers. -/
theorem Round.toNat_sub (a b : Round) : (b - a).toNat = (b.toNat + 2 ^ 32 - a.toNat) % 2 ^ 32 := by
  have ha := a.isLt
  rw [BitVec.toNat_sub]
  congr 1
  omega

theorem roundBefore_iff (a b : Round) : roundBefore a b = true ↔ 1 ≤ (b - a).toNat ∧ (b - a).toNat ≤ 2 ^ 31 - 1 :=
  decide_eq_true_iff

theorem roundAtOrBefore_iff (a b : Round) : roundAtOrBefore a b = true ↔ (b - a).toNat ≤ 2 ^ 31 - 1 :=
  decide_eq_true_iff

theorem Round.toNat_add_sub {n : Nat} (h : n < 2 ^ 32) (a : Round) : (a + BitVec.ofNat 32 n - a).toNat = n := by
  rw [add_sub_cancel_left, BitVec.toNat_ofNat, Nat.mod_eq_of_lt h]

/-- Settles O37: the window of R52 in numbers, and how far the rounds of the expiry and the retry test lie apart. -/
theorem roundNumberComparison : Obligations.RoundNumberComparison := by
  unfold Obligations.RoundNumberComparison
  refine ⟨fun a b => ?_, fun a b => ?_, fun a n hn => ?_, fun e n hn => ?_, fun e n hn => ?_⟩
  · rw [roundBefore_iff, Round.toNat_sub]
  · rw [roundAtOrBefore_iff, Round.toNat_sub]
  · rw [roundAtOrBefore_iff, Round.toNat_add_sub (by omega)]
    omega
  · have hback : (e - BitVec.ofNat 32 n - e).toNat = (2 ^ 32 - n) % 2 ^ 32 := by
      rw [Round.toNat_sub, BitVec.toNat_sub, BitVec.toNat_ofNat]
      omega
    have hforth : (e - (e - BitVec.ofNat 32 n)).toNat = n := by
      rw [sub_sub_cancel, BitVec.toNat_ofNat]
      omega
    rw [← Bool.not_eq_true, roundBefore_iff, roundAtOrBefore_iff, hback, hforth]
    omega
  · have hforth : (e + 1 + BitVec.ofNat 32 n - e).toNat = n + 1 := by
      rw [BitVec.add_assoc, show (1 : Round) = BitVec.ofNat 32 1 from rfl, ← BitVec.ofNat_add,
        Round.toNat_add_sub (by omega)]
      omega
    have hback : (e - (e + 1 + BitVec.ofNat 32 n)).toNat = 2 ^ 32 - (n + 1) := by
      rw [← neg_sub, BitVec.toNat_neg, hforth]
      omega
    rw [← Bool.not_eq_true (roundAtOrBefore _ _), roundBefore_iff, roundAtOrBefore_iff, hback, hforth]
    omega

end Sys2Proof.Machine
end

section
namespace Sys2Proof.Machine

/-! ## CANCEL (O28) -/

theorem hostId_iff {n : Nat} : hostId n = true ↔ 1 ≤ n ∧ n ≤ 0xEFFF := decide_eq_true_iff

theorem decodeCancel_badLength {b : Bytes} (h : b.length ≠ 2) : decodeCancel b = .error .badLength := if_pos h

theorem decodeCancel_badValue {b : Bytes} (h : b.length = 2) (hid : ¬ (1 ≤ u16 b 0 ∧ u16 b 0 ≤ 0xEFFF)) :
    decodeCancel b = .error .badValue := by
  rw [decodeCancel, if_neg (not_not.mpr h), if_neg (mt hostId_iff.mp hid)]

theorem decodeCancel_inRange {b : Bytes} (h : b.length = 2) (hid : 1 ≤ u16 b 0 ∧ u16 b 0 ≤ 0xEFFF) :
    decodeCancel b = .ok (u16 b 0) := by
  rw [decodeCancel, if_neg (not_not.mpr h), if_pos (hostId_iff.mpr hid)]

/-- CANCEL of a record that is there: at once while it is PENDING, and by its mark while it is ON_LINE. -/
theorem answerCancel_found {b : Bytes} {s : State} {id : Nat} {r : Record} (hid : decodeCancel b = .ok id)
    (hr : s.txns.find? (fun r => r.id == id) = some r) :
    answerCancel b s =
      if r.onLine = true then (s.requestCancel r, .ok (le1 1)) else (s.cancelPending r, .ok (le1 0)) := by
  simp only [answerCancel, hid, hr]

/-- Settles O28: the checks in order, and the two states of the record. -/
theorem cancelRequest : Obligations.CancelRequest := by
  unfold Obligations.CancelRequest
  intro tag b s h
  have hrefuse {st : Status} (ha : answerCancel b s = s.refuse st) := exec_of_refused (q := .cancel) h ha
  refine ⟨fun hb => hrefuse (by rw [answerCancel, decodeCancel_badLength hb]),
    fun hb hid => hrefuse (by rw [answerCancel, decodeCancel_badValue hb (by omega)]), fun hb hmin hmax => ?_⟩
  have hdecode := decodeCancel_inRange hb ⟨hmin, hmax⟩
  refine ⟨fun hnone => hrefuse (by simp only [answerCancel, hdecode, hnone]), fun r hr hpend => ?_, fun r hr hon => ?_⟩
  · have hanswer := answerCancel_found hdecode hr
    rw [if_neg (by simp [hpend])] at hanswer
    exact exec_of_ok (q := .cancel) h hanswer
  · have hanswer := answerCancel_found hdecode hr
    rw [if_pos hon] at hanswer
    exact exec_of_ok (q := .cancel) h hanswer

/-! ## SUBMIT (O26, O27) -/

/-! ### The body -/

theorem fin?_eq_some {k n : Nat} {i : Fin k} : fin? k n = some i ↔ i.val = n := by
  refine ⟨fun h => ?_, fun h => h ▸ fin?_val i⟩
  unfold fin? at h
  split at h
  · cases h; rfl
  · cases h

theorem target?_eq_some {n : Nat} {t : Target} : target? n = some t ↔ t.code = n := by
  refine ⟨fun h => ?_, fun h => h ▸ t.target?_code⟩
  unfold target? at h
  split at h
  · next hi => cases h; exact fin?_eq_some.mp hi
  · split at h
    · next hn => cases h; exact hn.symm
    · cases h

theorem hostKind?_eq_some {n : Nat} {k : TxnKind} : hostKind? n = some k ↔ k.isHost = true ∧ k.code = n := by
  refine ⟨fun h => ?_, fun ⟨hhost, hcode⟩ => ?_⟩
  · unfold hostKind? at h
    split_ifs at h with h1 h2 h3 <;> cases h
    · exact ⟨rfl, h1.symm⟩
    · exact ⟨rfl, h2.symm⟩
    · exact ⟨rfl, h3.symm⟩
  · subst hcode
    cases k with
    | poll | probe => cases hhost
    | _ => rfl

/-- The placement byte and the segment byte spell this placement (R177, R180). -/
def Placement.spelledBy (code seg : Nat) : Placement → Prop
  | .closing => code = 0
  | .afterSegment k => code = 1 ∧ k.val = seg
  | .any => code = 2

theorem placement?_eq_some {code seg : Nat} {p : Placement} :
    placement? code seg = some p ↔ p.spelledBy code seg := by
  refine ⟨fun h => ?_, fun h => ?_⟩
  · unfold placement? at h
    split_ifs at h with h0 h1 h2
    · cases h; exact h0
    · obtain ⟨k, hk, rfl⟩ := Option.map_eq_some_iff.mp h
      exact ⟨h1, fin?_eq_some.mp hk⟩
    · cases h; exact h2
  · cases p with
    | closing => rw [show code = 0 from h]; rfl
    | afterSegment k =>
      obtain ⟨rfl, rfl⟩ := h
      exact congrArg (Option.map _) (fin?_val k)
    | any => rw [show code = 2 from h]; rfl

theorem Placement.spelledBy.range {p : Placement} {code seg : Nat} (h : p.spelledBy code seg) :
    code ≤ 2 ∧ (code = 1 → seg ≤ 31) := by
  cases p with
  | closing => have h : code = 0 := h; omega
  | afterSegment k =>
    obtain ⟨hcode, hseg⟩ := h
    have := k.isLt
    omega
  | any => have h : code = 2 := h; omega

theorem Placement.exists_spelledBy {code seg : Nat} (hcode : code ≤ 2) (hseg : code = 1 → seg ≤ 31) :
    ∃ p : Placement, p.spelledBy code seg := by
  obtain h | h | h : code = 0 ∨ code = 1 ∨ code = 2 := by omega
  · exact ⟨.closing, h⟩
  · exact ⟨.afterSegment ⟨seg, Nat.lt_succ_of_le (hseg h)⟩, h, rfl⟩
  · exact ⟨.any, h⟩

theorem TxnKind.exists_host {n : Nat} (h : n = 1 ∨ n = 2 ∨ n = 3) : ∃ k : TxnKind, k.isHost = true ∧ k.code = n := by
  rcases h with rfl | rfl | rfl
  exacts [⟨.write, rfl, rfl⟩, ⟨.read, rfl, rfl⟩, ⟨.send, rfl, rfl⟩]

theorem TxnKind.code_range {k : TxnKind} (h : k.isHost = true) : k.code = 1 ∨ k.code = 2 ∨ k.code = 3 := by
  cases k with
  | poll | probe => cases h
  | _ => decide

theorem TxnKind.eq_send_of_code {k : TxnKind} : k.code = 3 → k = .send := by cases k <;> decide

/-- The ranges that check 2 of SUBMIT judges (R53). -/
def submitInRange (b : Bytes) : Prop :=
  (1 ≤ u16 b 0 ∧ u16 b 0 ≤ 0xEFFF) ∧ (u8 b 2 = 1 ∨ u8 b 2 = 2 ∨ u8 b 2 = 3)
  ∧ (u8 b 3 ≤ 7 ∨ (u8 b 3 = 15 ∧ u8 b 2 = 3)) ∧ u8 b 4 ≤ 3 ∧ (1 ≤ u16 b 5 ∧ u16 b 5 ≤ 256)
  ∧ u8 b 7 ≤ 2 ∧ (u8 b 7 = 1 → u8 b 8 ≤ 31) ∧ u8 b 13 ≤ 7

/-- The submission's fields are those that the body's bytes spell. -/
structure Submission.carriedBy (v : Submission) (b : Bytes) : Prop where
  id : v.id = u16 b 0
  host : v.kind.isHost = true
  kind : v.kind.code = u8 b 2
  target : v.target.code = u8 b 3
  channel : v.channel.val = u8 b 4
  length : v.length = u16 b 5
  placement : v.placement.spelledBy (u8 b 7) (u8 b 8)
  delay : v.delay = u16 b 9
  lifetime : v.lifetime = if u16 b 11 = 0 then none else some (u16 b 11)
  retryBudget : v.retryBudget = u8 b 13
  payload : v.payload = b.drop 14

theorem decodeSubmit_badLength {b : Bytes} (h : b.length < 14 ∨ b.length ≠ submitSize b) :
    decodeSubmit b = .error .badLength := if_pos h

/-- A broadcast is for a SEND, and the other ranges that are no code's. -/
def Submission.bounded (v : Submission) : Prop :=
  (1 ≤ v.id ∧ v.id ≤ 0xEFFF) ∧ (v.target = .broadcast → v.kind = .send) ∧ (1 ≤ v.length ∧ v.length ≤ 256)
  ∧ v.retryBudget ≤ 7

/-- Past the length check the body is accepted exactly with the fields its bytes spell, when these are bounded. -/
theorem decodeSubmit_eq_ok {b : Bytes} {v : Submission} (hb : ¬ (b.length < 14 ∨ b.length ≠ submitSize b)) :
    decodeSubmit b = .ok v ↔ v.carriedBy b ∧ v.bounded := by
  rw [decodeSubmit, if_neg hb]
  constructor
  · intro h
    split at h
    · next k t c p hk ht hc hp =>
      split at h
      · next hrange =>
        obtain ⟨hid, hbroadcast, hmin, hmax, hbudget⟩ := hrange
        obtain ⟨hhost, hcode⟩ := hostKind?_eq_some.mp hk
        cases h
        exact ⟨⟨rfl, hhost, hcode, target?_eq_some.mp ht, fin?_eq_some.mp hc, rfl, placement?_eq_some.mp hp, rfl, rfl,
          rfl, rfl⟩, hostId_iff.mp hid, hbroadcast, ⟨hmin, hmax⟩, hbudget⟩
      · cases h
    · cases h
  · rintro ⟨hv, hid, hbroadcast, ⟨hmin, hmax⟩, hbudget⟩
    rw [hostKind?_eq_some.mpr ⟨hv.host, hv.kind⟩, target?_eq_some.mpr hv.target, fin?_eq_some.mpr hv.channel,
      placement?_eq_some.mpr hv.placement]
    dsimp only
    rw [← hv.id, ← hv.length, ← hv.delay, ← hv.lifetime, ← hv.retryBudget, ← hv.payload,
      if_pos ⟨hostId_iff.mpr hid, hbroadcast, hmin, hmax, hbudget⟩]

/-- The bytes of a body in range spell a submission. -/
theorem submitInRange.spells {b : Bytes} (h : submitInRange b) : ∃ v : Submission, v.carriedBy b ∧ v.bounded := by
  obtain ⟨hid, hkind, hstation, hchannel, hlength, hplacement, hsegment, hbudget⟩ := h
  obtain ⟨k, hhost, hk⟩ := TxnKind.exists_host hkind
  obtain ⟨t, ht, hbroadcast⟩ : ∃ t : Target, t.code = u8 b 3 ∧ (t = .broadcast → k = .send) := by
    rcases hstation with h | ⟨h, hsend⟩
    · exact ⟨.station ⟨u8 b 3, Nat.lt_succ_of_le h⟩, rfl, nofun⟩
    · exact ⟨.broadcast, h.symm, fun _ => TxnKind.eq_send_of_code (hk.trans hsend)⟩
  obtain ⟨p, hp⟩ := Placement.exists_spelledBy hplacement hsegment
  exact ⟨{ id := u16 b 0, kind := k, target := t, channel := ⟨u8 b 4, Nat.lt_succ_of_le hchannel⟩, length := u16 b 5
           placement := p, delay := u16 b 9, lifetime := if u16 b 11 = 0 then none else some (u16 b 11)
           retryBudget := u8 b 13, payload := b.drop 14 },
    ⟨rfl, hhost, hk, ht, rfl, rfl, hp, rfl, rfl, rfl, rfl⟩, hid, hbroadcast, hlength, hbudget⟩

/-- A submission in its bounds is spelled by bytes in range only. -/
theorem Submission.carriedBy.inRange {v : Submission} {b : Bytes} (hv : v.carriedBy b) (hbounds : v.bounded) :
    submitInRange b := by
  obtain ⟨hid, hbroadcast, hlength, hbudget⟩ := hbounds
  obtain ⟨hplacement, hsegment⟩ := hv.placement.range
  have hstation : u8 b 3 ≤ 7 ∨ (u8 b 3 = 15 ∧ u8 b 2 = 3) := by
    rw [← hv.target, ← hv.kind]
    cases ht : v.target with
    | station i => exact Or.inl (Nat.le_of_lt_succ i.isLt)
    | broadcast => exact Or.inr ⟨rfl, by rw [hbroadcast ht]; rfl⟩
  exact ⟨hv.id ▸ hid, hv.kind ▸ TxnKind.code_range hv.host, hstation, hv.channel ▸ Nat.le_of_lt_succ v.channel.isLt,
    hv.length ▸ hlength, hplacement, hsegment, hv.retryBudget ▸ hbudget⟩

/-- Past the length check a body that is refused is refused for a value (R53). -/
theorem decodeSubmit_cases {b : Bytes} (hb : ¬ (b.length < 14 ∨ b.length ≠ submitSize b)) :
    decodeSubmit b = .error .badValue ∨ ∃ v, decodeSubmit b = .ok v := by
  rw [decodeSubmit, if_neg hb]
  split
  · split
    · exact Or.inr ⟨_, rfl⟩
    · exact Or.inl rfl
  · exact Or.inl rfl

/-- Settles O26: the length first, then the ranges, and the fields of an accepted body. -/
theorem submitBody : Obligations.SubmitBody := by
  unfold Obligations.SubmitBody
  intro tag b s ok h hok
  have hok : ok ↔ submitInRange b := hok
  have hrefuse {st : Status} (ha : answerSubmit b s = s.refuse st) := exec_of_refused (q := .submit) h ha
  refine ⟨fun hb => hrefuse (by rw [answerSubmit, decodeSubmit_badLength hb]), fun hmin hsize hbad => ?_,
    fun hmin hsize hgood => ?_⟩
  all_goals
    have hb : ¬ (b.length < 14 ∨ b.length ≠ submitSize b) := not_or.mpr ⟨Nat.not_lt.mpr hmin, not_not.mpr hsize⟩
  · have hvalue : decodeSubmit b = .error .badValue := (decodeSubmit_cases hb).resolve_right fun ⟨v, hv⟩ => by
      obtain ⟨hcarried, hbounds⟩ := (decodeSubmit_eq_ok hb).mp hv
      exact hbad (hok.mpr (hcarried.inRange hbounds))
    exact hrefuse (by rw [answerSubmit, hvalue])
  · obtain ⟨v, hv, hbounds⟩ := (hok.mp hgood).spells
    refine ⟨v, (decodeSubmit_eq_ok hb).mpr ⟨hv, hbounds⟩, hv.id, hv.kind, hv.target, hv.channel, hv.length, ?_,
      hv.delay, hv.lifetime, hv.retryBudget, hv.payload⟩
    have hplacement := hv.placement
    cases hp : v.placement <;> rw [hp] at hplacement <;> exact hplacement

/-! ### Checks 3 to 8 -/

/-- Checks 3 to 8 in the spec's own words (R53). -/
theorem State.submitCheck_eq (s : State) (v : Submission) :
    s.submitCheck v =
      if s.engine.state = .stopping then some .wrongState
      else if 40 ≤ s.admission then some .queueFull
      else if s.txns.any (fun x => x.id == v.id) = true then some .duplicateId
      else match v.target with
        | .station i =>
          if (s.station i).state = .disabled ∨ (s.station i).state = .offline then some .stationUnavailable
          else if (match (s.station i).identity with
              | some x => x.channels.getLsbD v.channel.val
              | none => false) = false then some .badChannel
          else if s.canFit v.record = false then some .neverFits else none
        | .broadcast => if s.canFit v.record = false then some .neverFits else none := by
  have hfit : (if s.canFit v.record = true then none else some Status.neverFits)
      = if s.canFit v.record = false then some .neverFits else none := by
    cases s.canFit v.record <;> rfl
  unfold State.submitCheck State.submitStationCheck
  rw [hfit]
  refine if_congr Iff.rfl rfl (if_congr Iff.rfl rfl (if_congr Iff.rfl rfl ?_))
  cases v.target with
  | broadcast => rfl
  | station i =>
    dsimp only
    by_cases hst : (s.station i).state = .disabled ∨ (s.station i).state = .offline
    · rw [if_pos hst, if_pos hst]
    · rw [if_neg hst, if_neg hst]
      cases (s.station i).identity with
      | none => rfl
      | some x =>
        dsimp only [Option.any]
        by_cases hx : x.channels.getLsbD v.channel.val = true
        · rw [if_pos hx, if_neg (by rw [hx]; decide : ¬ x.channels.getLsbD v.channel.val = false)]
        · rw [if_neg hx, if_pos (Bool.eq_false_of_not_eq_true hx)]

theorem answerSubmit_refused {b : Bytes} {s : State} {v : Submission} {st : Status} (hv : decodeSubmit b = .ok v)
    (hc : s.submitCheck v = some st) : answerSubmit b s = s.refuse st := by
  simp only [answerSubmit, hv, hc]

theorem answerSubmit_accepted {b : Bytes} {s : State} {v : Submission} (hv : decodeSubmit b = .ok v)
    (hc : s.submitCheck v = none) :
    answerSubmit b s = (s.setTxns (s.txns ++ [s.submitted v]), .ok (submitFields (s.submitted v))) := by
  simp only [answerSubmit, hv, hc]

/-- SUBMIT of a body in range: refused by the first check that fails, and otherwise carried out. -/
theorem exec_submit {tag : Byte} {b : Bytes} {s : State} {v : Submission} (h : s.takes tag 0x40 b)
    (hv : decodeSubmit b = .ok v) :
    exec (.submit tag b) s = .next ((s.submitCheck v).elim
      (s.answered (s.setTxns (s.txns ++ [s.submitted v])) .submit tag b .ok (submitFields (s.submitted v)))
      (s.refused .submit tag b)) := by
  cases hc : s.submitCheck v with
  | none => exact exec_of_ok (q := .submit) h (answerSubmit_accepted hv hc)
  | some st => exact exec_of_refused (q := .submit) h (answerSubmit_refused hv hc)

/-! ### The accepted record -/

/-- A delay of 0 makes a record due in the round of its anchor, and no other delay of two bytes does (R51). -/
theorem due_at_anchor {a : Round} {n : Nat} (h : n ≤ 65535) : (a + BitVec.ofNat 32 n == a) = decide (n = 0) := by
  rw [Bool.eq_iff_iff, beq_iff_eq, decide_eq_true_eq, add_eq_left, ← BitVec.toNat_inj, BitVec.toNat_ofNat,
    Nat.mod_eq_of_lt (by omega)]
  rfl

theorem State.submitted_running {s : State} (v : Submission) (hs : s.engine.state = .running) :
    s.submitted v = v.record.anchored s.engine.counter := if_pos hs

theorem State.submitted_unanchored {s : State} (v : Submission) (hs : s.engine.state ≠ .running) :
    s.submitted v = v.record := if_neg hs

theorem le4_zero : le4 0 = [0, 0, 0, 0] := rfl

theorem submitFields_unanchored {r : Record} (h : r.anchor = none) :
    submitFields r = le2 r.id ++ [0, 0, 0, 0, 0, 0, 0, 0, 0] := by
  rw [submitFields, Record.expiryRound, h]
  rfl

theorem submitFields_anchored {r : Record} {e : Round} (h : r.anchor = some { earliest := e, expiry := none }) :
    submitFields r = le2 r.id ++ (le1 1 ++ le4 e.toNat ++ [0, 0, 0, 0]) := by
  rw [submitFields, Record.expiryRound, h, ← le4_zero, List.append_assoc, List.append_assoc, List.append_assoc]
  rfl

theorem submitFields_expiring {r : Record} {e x : Round} (h : r.anchor = some { earliest := e, expiry := some x }) :
    submitFields r = le2 r.id ++ (le1 3 ++ le4 e.toNat ++ le4 x.toNat) := by
  rw [submitFields, Record.expiryRound, h]
  rfl

/-- Settles O27: the checks in order, and the record anchored in RUNNING alone. -/
theorem submitRequest : Obligations.SubmitRequest := by
  unfold Obligations.SubmitRequest
  intro tag b s v r early h hv hearly hr hdelay
  have hrecord : r = s.submitted v := by
    rw [hr]
    by_cases hs : s.engine.state = .running
    · rw [State.submitted_running v hs, Record.anchored]
      simp only [Submission.record, hs, hearly, due_at_anchor hdelay, true_and, if_true]
      cases v.lifetime <;> rfl
    · rw [State.submitted_unanchored v hs]
      simp only [Submission.record, hs, false_and, if_false, decide_false]
  have hfit : s.canFit r = s.canFit v.record := by rw [hr]; rfl
  have hid : r.id = v.id := by rw [hr]
  refine ⟨(exec_submit h hv).trans (congrArg _ ?_), ?_⟩
  · rw [State.submitCheck_eq, hfit, ← hrecord]
    cases v.target with
    | broadcast =>
      dsimp only
      split_ifs <;> rfl
    | station i =>
      dsimp only
      cases (s.station i).identity with
      | none => dsimp only; split_ifs <;> rfl
      | some x => dsimp only; split_ifs <;> rfl
  · by_cases hs : s.engine.state = .running
    · cases hl : v.lifetime with
      | none =>
        have hanchor : r.anchor = some { earliest := early, expiry := none } := by simp only [hr, hs, hl, if_true]
        rw [submitFields_anchored hanchor, hid, hs]
      | some l =>
        have hanchor : r.anchor = some { earliest := early, expiry := some (early + BitVec.ofNat 32 l - 1) } := by
          simp only [hr, hs, hl, if_true]
        rw [submitFields_expiring hanchor, hid, hs]
    · have hanchor : r.anchor = none := by simp only [hr, hs, if_false]
      rw [submitFields_unanchored hanchor, hid]
      split
      · next hrun _ => exact absurd hrun hs
      · next hrun _ => exact absurd hrun hs
      · rfl

end Sys2Proof.Machine
end

section
namespace Sys2Proof.Machine

/-! ## READ QUEUE (O29) -/

/-! ### The waiting reason -/

theorem State.waitsForStation_iff {s : State} {r : Record} :
    s.waitsForStation r = true ↔ r.isHost = true ∧ ∃ i, r.target = .station i ∧ (s.station i).state = .resync := by
  unfold State.waitsForStation
  cases r.target <;> simp

theorem heldByOlder_iff {older : List Record} {r : Record} :
    heldByOlder older r = true ↔
      r.isHost = true ∧ ∃ x ∈ older, x.isHost = true ∧ x.target = r.target ∧ x.channel = r.channel := by
  simp [heldByOlder, and_assoc]

theorem State.heldForRoom_iff {s : State} {r : Record} :
    s.heldForRoom r = true ↔ r.kind = .poll ∧ ¬ (s.inbound.messages.length < 16
      ∧ s.limitOf r.target ≤ 2048 - (s.inbound.messages.map fun m => m.payload.length).sum) := by
  rw [State.heldForRoom, Bool.and_eq_true, beq_iff_eq, Bool.not_eq_true', Inbound.room, decide_eq_false_iff_not]
  rfl

theorem State.waitsForGap_iff {s : State} {r : Record} :
    s.waitsForGap r = true ↔ ¬ (s.engine.state = .running ∧ ∃ g, s.sched.openGap = some g
      ∧ placementMatches s.engine.table r.placement g.kind = true
      ∧ s.now + s.bits (s.reservation r + 20) ≤ g.ends) := by
  unfold State.waitsForGap
  cases s.sched.openGap with
  | none => simp
  | some g =>
    simp only [Bool.or_eq_true, bne_iff_ne, Bool.not_eq_true', decide_eq_false_iff_not, Option.some.injEq,
      exists_eq_left', not_and_or, or_assoc, Bool.not_eq_true]
    rfl

/-! ### The entries -/

/-- The entries one by one: each with the records before it (R66). -/
theorem State.queueEntries_eq (s : State) (older : List Record) (n : Nat) (l : List Record) :
    s.queueEntries older n l
      = (List.range (min n l.length)).flatMap fun i => match l[i]? with
          | none => []
          | some r => s.queueEntry (older ++ l.take i) r := by
  induction n generalizing older l with
  | zero => rw [Nat.zero_min]; cases l <;> rfl
  | succ n ih =>
    cases l with
    | nil => rfl
    | cons r rest =>
      rw [State.queueEntries, ih, List.length_cons, Nat.succ_min_succ, List.range_succ_eq_map, List.flatMap_cons,
        List.flatMap_map]
      simp

theorem bitWeight_zero (v : Bool) : bitWeight v 0 = if v = true then 1 else 0 := by cases v <;> rfl

theorem State.queueEntry_eq (s : State) (older : List Record) (r : Record) :
    s.queueEntry older r
      = le2 r.id ++ le1 r.kind.code ++ le1 (match r.target with | .station j => j.val | .broadcast => 15)
        ++ le1 r.channel.val ++ le1 (if r.onLine = true then 1 else 0) ++ le1 r.attempts
        ++ le1 (if r.cancelRequested = true then 1 else 0)
        ++ le1 (if r.onLine = true then 0 else s.waitingReason older r)
        ++ le1 (match r.last with | some x => x.outcome.code | none => 0xFF) := by
  rw [State.queueEntry, leBool, leBool, bitWeight_zero, bitWeight_zero]
  cases r.target <;> cases r.last <;> rfl

theorem decodeCount_badLength {top : Nat} {b : Bytes} (h : b.length ≠ 1) : decodeCount top b = .error .badLength :=
  if_pos h

theorem decodeCount_badValue {top : Nat} {b : Bytes} (h : b.length = 1) (hv : u8 b 0 = 0 ∨ top < u8 b 0) :
    decodeCount top b = .error .badValue := by
  rw [decodeCount, if_neg (not_not.mpr h), if_neg (by omega)]

theorem decodeCount_ok {top : Nat} {b : Bytes} (h : b.length = 1) (hv : ¬ (u8 b 0 = 0 ∨ top < u8 b 0)) :
    decodeCount top b = .ok (u8 b 0) := by
  rw [decodeCount, if_neg (not_not.mpr h), if_pos (by omega)]

/-- READ QUEUE of a number in range. -/
theorem answerReadQueue_decoded {b : Bytes} {n : Nat} (s : State) (hn : decodeCount 48 b = .ok n) :
    answerReadQueue b s = (s, .ok
      (le1 s.txns.length ++ le1 (s.txns.countP fun r => r.isHost) ++ le1 s.admission ++ le2 s.onLineId
        ++ le1 (min n s.txns.length) ++ s.queueEntries [] n s.txns)) := by
  rw [answerReadQueue, hn]

/-- Settles O29: the waiting reason test by test, and the reply entry by entry. -/
theorem readQueueReply : Obligations.ReadQueueReply := by
  unfold Obligations.ReadQueueReply
  refine ⟨fun s older r => ?_, fun tag b s h => ?_⟩
  · simp only [State.waitingReason, State.waitsForStation_iff, heldByOlder_iff, State.heldForRoom_iff,
      State.waitsForGap_iff, Option.isNone_iff_eq_none]
  · by_cases hb : b.length = 1
    · rw [if_neg (not_not.mpr hb)]
      by_cases hv : u8 b 0 = 0 ∨ 48 < u8 b 0
      · rw [if_pos hv]
        exact exec_of_refused (q := .readQueue) h (by
          rw [Request.answer, answerReadQueue, decodeCount_badValue hb hv])
      · rw [if_neg hv]
        refine (exec_of_ok (q := .readQueue) h (answerReadQueue_decoded s (decodeCount_ok hb hv))).trans ?_
        rw [State.queueEntries_eq]
        simp only [State.queueEntry_eq, List.nil_append]
        rfl
    · rw [if_pos hb]
      exact exec_of_refused (q := .readQueue) h (by rw [Request.answer, answerReadQueue, decodeCount_badLength hb])

end Sys2Proof.Machine
end

section
namespace Sys2Proof.Machine

/-! ## The Transaction List (O59) -/

/-! ### The invariants over the parts of the state they read -/

/-- Ids unique, every record in its bounds, and one internal record a station (R49, R50, R90). -/
def recordsSafe (l : List Record) : Prop :=
  (l.map Record.id).Nodup ∧ (∀ r ∈ l, r.safe) ∧ ∀ i : StationId, l.countP (fun r => !r.isHost && r.names i) ≤ 1

/-- The ON_LINE record is the one whose attempt is on the line (R57). -/
def attemptTied (l : List Record) : Option Attempt → Prop
  | some a => ∃ r ∈ l, r.onLine = true ∧ a.isOf r ∧ ∀ x ∈ l, x.onLine = true → x.id = r.id
  | none => ∀ x ∈ l, x.onLine = false

/-- `State.listSafe` with the attempt given beside the state: at the end of an attempt the list is treated after the
attempt has left the line (R57, R103). -/
def State.listSafeWith (s : State) (att : Option Attempt) : Prop :=
  recordsSafe s.txns ∧ s.admission ≤ Config.admissionLimit ∧ attemptTied s.txns att

theorem State.listSafe_iff (s : State) : s.listSafe ↔ s.listSafeWith s.attempt := by
  unfold State.listSafe State.listSafeWith recordsSafe
  cases s.attempt <;> simp only [attemptTied, and_assoc]

/-- The two properties of the Transaction List that are kept together. -/
def State.txnsSafe (s : State) : Prop := s.listSafeWith s.attempt ∧ s.waitingSafe

theorem State.txnsSafe.records {s : State} (h : s.txnsSafe) : recordsSafe s.txns := h.1.1

theorem recordsSafe.safe {l : List Record} (h : recordsSafe l) {r : Record} (hr : r ∈ l) : r.safe := h.2.1 r hr

/-- Two records with one id are one record. -/
theorem recordsSafe.eq_of_id {l : List Record} (h : recordsSafe l) {x y : Record} (hx : x ∈ l) (hy : y ∈ l)
    (e : x.id = y.id) : x = y :=
  List.inj_on_of_nodup_map h.1 hx hy e

/-! ### Records leave the list -/

theorem recordsSafe.filter {l : List Record} (h : recordsSafe l) (p : Record → Bool) : recordsSafe (l.filter p) := by
  obtain ⟨hid, hsafe, hone⟩ := h
  exact ⟨hid.sublist (List.filter_sublist.map _), fun r hr => hsafe r (List.mem_of_mem_filter hr),
    fun i => List.filter_sublist.countP_le.trans (hone i)⟩

theorem attemptTied.filter {l : List Record} {att : Option Attempt} (h : attemptTied l att) {p : Record → Bool}
    (hp : ∀ r ∈ l, r.onLine = true → p r = true) : attemptTied (l.filter p) att := by
  cases att with
  | none => exact fun x hx => h x (List.mem_of_mem_filter hx)
  | some a =>
    obtain ⟨r, hr, hon, hof, hone⟩ := h
    exact ⟨r, List.mem_filter.mpr ⟨hr, hp r hr hon⟩, hon, hof, fun x hx => hone x (List.mem_of_mem_filter hx)⟩

/-- PENDING records leave the list, and the admission count does not rise. -/
theorem State.listSafeWith.filter {s t : State} {att : Option Attempt} (h : s.listSafeWith att) {p : Record → Bool}
    (ht : t.txns = s.txns.filter p) (hp : ∀ r ∈ s.txns, r.onLine = true → p r = true)
    (ha : t.admission ≤ s.admission) : t.listSafeWith att := by
  obtain ⟨hrec, hadm, htied⟩ := h
  exact ⟨ht ▸ hrec.filter p, ha.trans hadm, ht ▸ htied.filter hp⟩

/-- The list's part of an operation that touches neither the list nor a COMPLETION report, and removes such reports at
most. -/
theorem State.listSafeWith.of_eq {s t : State} {att : Option Attempt} (h : s.listSafeWith att) (ht : t.txns = s.txns)
    (hc : t.completions ≤ s.completions) : t.listSafeWith att := by
  obtain ⟨hrec, hadm, htied⟩ := h
  refine ⟨ht ▸ hrec, ?_, ht ▸ htied⟩
  rw [State.admission_eq] at hadm ⊢
  rw [ht]
  omega

/-- PENDING records wait as well in a later state: each comes from one that waited, of its kind and station, and no
station has changed its state. -/
theorem State.waitingSafe.of_waiting {s t : State} (h : s.waitingSafe)
    (hr : ∀ r ∈ t.txns, r.onLine = false → ∃ x ∈ s.txns, x.onLine = false ∧ x.kind = r.kind ∧ x.target = r.target)
    (hst : ∀ i, (t.station i).state = (s.station i).state) : t.waitingSafe := by
  intro r hmem hpend i hi
  obtain ⟨x, hx, hxpend, hkind, htarget⟩ := hr r hmem hpend
  have hallows := h x hx hxpend i (htarget.trans hi)
  unfold Record.stationAllows at hallows ⊢
  rwa [hst, ← hkind]

theorem State.waitingSafe.of_subset {s t : State} (h : s.waitingSafe) (hr : ∀ r ∈ t.txns, r ∈ s.txns)
    (hst : t.stations = s.stations) : t.waitingSafe :=
  h.of_waiting (fun r hmem hpend => ⟨r, hr r hmem, hpend, rfl, rfl⟩) fun i => by rw [State.station, State.station, hst]

/-- An operation that leaves the list, the stations and the attempt, and queues no COMPLETION report. -/
theorem State.txnsSafe.of_eq {s t : State} (h : s.txnsSafe) (ht : t.txns = s.txns) (ha : t.attempt = s.attempt)
    (hst : t.stations = s.stations) (hc : t.completions ≤ s.completions) : t.txnsSafe :=
  ⟨ha ▸ h.1.of_eq ht hc, h.2.of_subset (fun _ hr => ht ▸ hr) hst⟩

/-! ### Occurrences and bulk completions -/

@[simp] theorem State.completions_occur (s : State) (src : SourceId) (d : Detail) :
    (s.occur src d).completions = s.completions := by
  rw [State.completions, State.occur_reports]
  split
  · rfl
  · rw [List.countP_append]; rfl

theorem State.txnsSafe.occur {s : State} (h : s.txnsSafe) (src : SourceId) (d : Detail) : (s.occur src d).txnsSafe :=
  h.of_eq (by simp) (by simp) (by simp) (by simp)

theorem State.listSafeWith.completeAll {s : State} {att : Option Attempt} (h : s.listSafeWith att) (p : Record → Bool)
    (o : TxnOutcome) : (s.completeAll p o).listSafeWith att :=
  h.filter (s.completeAll_txns p o) (fun r _ hon => by simp [Record.pendingHost, hon]) (s.completeAll_admission p o).le

theorem State.listSafeWith.removeInternal {s : State} {att : Option Attempt} (h : s.listSafeWith att)
    (p : Record → Bool) : (s.removeInternal p).listSafeWith att :=
  h.filter (s.removeInternal_txns p) (fun r _ hon => by simp [Record.pendingInternal, hon])
    (Nat.add_le_add_right List.filter_sublist.countP_le _)

theorem State.txnsSafe.completeAll {s : State} (h : s.txnsSafe) (p : Record → Bool) (o : TxnOutcome) :
    (s.completeAll p o).txnsSafe := by
  refine ⟨?_, h.2.of_subset (fun r hr => ?_) (by simp)⟩
  · rw [State.completeAll_attempt]; exact h.1.completeAll p o
  · rw [State.completeAll_txns] at hr; exact List.mem_of_mem_filter hr

theorem State.txnsSafe.removeInternal {s : State} (h : s.txnsSafe) (p : Record → Bool) :
    (s.removeInternal p).txnsSafe :=
  ⟨h.1.removeInternal p, h.2.of_subset (fun _ hr => List.mem_of_mem_filter hr) rfl⟩

theorem State.txnsSafe.flushAll {s : State} (h : s.txnsSafe) (o : TxnOutcome) : (s.flushAll o).txnsSafe :=
  (h.completeAll _ o).removeInternal _

/-! ### Records change in place -/

/-- What a change of a record in place leaves: its transaction. -/
structure Record.sameTxn (x y : Record) : Prop where
  id : y.id = x.id
  kind : y.kind = x.kind
  target : y.target = x.target
  channel : y.channel = x.channel
  length : y.length = x.length
  payload : y.payload = x.payload

theorem Record.sameTxn_self (x : Record) : x.sameTxn x := ⟨rfl, rfl, rfl, rfl, rfl, rfl⟩

theorem recordsSafe.map {l : List Record} (h : recordsSafe l) {f : Record → Record}
    (hf : ∀ r ∈ l, r.sameTxn (f r) ∧ (f r).safe) : recordsSafe (l.map f) := by
  obtain ⟨hid, -, hone⟩ := h
  refine ⟨?_, fun r hr => ?_, fun i => ?_⟩
  · have e : (l.map f).map Record.id = l.map Record.id := by
      rw [List.map_map]
      refine List.map_congr_left fun r hr => ?_
      obtain ⟨hsame, -⟩ := hf r hr
      exact hsame.id
    exact e ▸ hid
  · obtain ⟨x, hx, rfl⟩ := List.mem_map.mp hr
    exact (hf x hx).2
  · rw [List.countP_map]
    refine (List.countP_congr fun r hr => ?_).trans_le (hone i)
    obtain ⟨hsame, -⟩ := hf r hr
    simp [Record.isHost, Record.names, hsame.kind, hsame.target]

theorem Attempt.isOf.of_sameTxn {a : Attempt} {x y : Record} (h : a.isOf x) (e : x.sameTxn y) : a.isOf y := by
  unfold Attempt.isOf
  rwa [e.kind, e.target, e.channel, e.length, e.payload]

theorem attemptTied.map {l : List Record} {att : Option Attempt} (h : attemptTied l att) {f : Record → Record}
    (hf : ∀ r ∈ l, r.sameTxn (f r) ∧ (f r).onLine = r.onLine) : attemptTied (l.map f) att := by
  cases att with
  | none =>
    intro y hy
    obtain ⟨x, hx, rfl⟩ := List.mem_map.mp hy
    exact (hf x hx).2.trans (h x hx)
  | some a =>
    obtain ⟨r, hr, hon, hof, hone⟩ := h
    obtain ⟨hsame, hline⟩ := hf r hr
    refine ⟨f r, List.mem_map_of_mem hr, hline.trans hon, hof.of_sameTxn hsame, fun y hy hyon => ?_⟩
    obtain ⟨x, hx, rfl⟩ := List.mem_map.mp hy
    obtain ⟨hxsame, hxline⟩ := hf x hx
    rw [hxsame.id, hone x hx (hxline ▸ hyon), hsame.id]

/-- A change in place leaves the host records host records. -/
theorem countP_isHost_map {l : List Record} {f : Record → Record} (hf : ∀ r ∈ l, r.sameTxn (f r)) :
    (l.map f).countP (fun r => r.isHost) = l.countP fun r => r.isHost := by
  rw [List.countP_map]
  exact List.countP_congr fun r hr => by simp [Record.isHost, (hf r hr).kind]

/-- The records change in place, each keeping its transaction and its bounds, and ON_LINE or PENDING as it was. -/
theorem State.txnsSafe.map {s : State} (h : s.txnsSafe) {f : Record → Record}
    (hf : ∀ r ∈ s.txns, r.sameTxn (f r) ∧ (f r).safe ∧ (f r).onLine = r.onLine) :
    (s.setTxns (s.txns.map f)).txnsSafe := by
  obtain ⟨⟨hrec, hadm, htied⟩, hwait⟩ := h
  have hsame (r : Record) (hr : r ∈ s.txns) : r.sameTxn (f r) := (hf r hr).1
  refine ⟨⟨hrec.map fun r hr => ⟨hsame r hr, (hf r hr).2.1⟩, ?_,
    htied.map fun r hr => ⟨hsame r hr, (hf r hr).2.2⟩⟩, hwait.of_waiting (fun y hy hpend => ?_) fun _ => rfl⟩
  · rw [State.admission_eq, State.setTxns_txns, countP_isHost_map hsame]
    exact hadm
  · obtain ⟨x, hx, rfl⟩ := List.mem_map.mp hy
    obtain ⟨hxsame, -, hon⟩ := hf x hx
    exact ⟨x, hx, hon ▸ hpend, hxsame.kind.symm, hxsame.target.symm⟩

/-! ### Records join the list -/

theorem recordsSafe.append {l : List Record} (h : recordsSafe l) {r : Record} (hsafe : r.safe)
    (hfresh : ∀ x ∈ l, x.id ≠ r.id)
    (hone : r.isHost = false → ∀ i, r.target = .station i → ∀ x ∈ l, x.isHost = false → x.target ≠ .station i) :
    recordsSafe (l ++ [r]) := by
  obtain ⟨hid, hall, hcount⟩ := h
  refine ⟨?_, fun x hx => ?_, fun i => ?_⟩
  · rw [List.map_append, List.map_singleton, List.nodup_append]
    refine ⟨hid, List.nodup_singleton _, fun n hn m hm => ?_⟩
    obtain ⟨x, hx, rfl⟩ := List.mem_map.mp hn
    rw [List.mem_singleton.mp hm]
    exact hfresh x hx
  · rcases List.mem_append.mp hx with hx | hx
    · exact hall x hx
    · rw [List.mem_singleton.mp hx]; exact hsafe
  · rw [List.countP_append, List.countP_singleton]
    split
    · next hr =>
      simp only [Bool.and_eq_true, Bool.not_eq_true', Record.names, beq_iff_eq] at hr
      have hnone : l.countP (fun x => !x.isHost && x.names i) = 0 := List.countP_eq_zero.mpr fun x hx hxi => by
        simp only [Bool.and_eq_true, Bool.not_eq_true', Record.names, beq_iff_eq] at hxi
        exact hone hr.1 i hr.2 x hx hxi.1 hxi.2
      omega
    · exact hcount i

theorem attemptTied.append {l : List Record} {att : Option Attempt} (h : attemptTied l att) {r : Record}
    (hr : r.onLine = false) : attemptTied (l ++ [r]) att := by
  have hmem {x : Record} (hx : x ∈ l ++ [r]) : x ∈ l ∨ x.onLine = false :=
    (List.mem_append.mp hx).imp_right fun e => by rw [List.mem_singleton.mp e]; exact hr
  cases att with
  | none => exact fun x hx => (hmem hx).elim (h x) id
  | some a =>
    obtain ⟨y, hy, hon, hof, hone⟩ := h
    refine ⟨y, List.mem_append_left _ hy, hon, hof, fun x hx hxon => ?_⟩
    exact hone x ((hmem hx).resolve_right (by simp [hxon])) hxon

theorem State.txnsSafe.append {s : State} (h : s.txnsSafe) {r : Record} (hsafe : r.safe) (hpend : r.onLine = false)
    (hfresh : ∀ x ∈ s.txns, x.id ≠ r.id)
    (hone : r.isHost = false → ∀ i, r.target = .station i → ∀ x ∈ s.txns, x.isHost = false → x.target ≠ .station i)
    (hroom : r.isHost = true → s.admission < Config.admissionLimit)
    (hallows : ∀ i, r.target = .station i → r.stationAllows (s.station i).state) :
    (s.setTxns (s.txns ++ [r])).txnsSafe := by
  obtain ⟨⟨hrec, hadm, htied⟩, hwait⟩ := h
  refine ⟨⟨hrec.append hsafe hfresh hone, ?_, htied.append hpend⟩, fun x hx hxpend i hi => ?_⟩
  · rw [State.admission_eq] at hadm hroom ⊢
    rw [State.setTxns_txns, List.countP_append, List.countP_singleton]
    show _ + s.completions ≤ _
    split
    · next hr => have := hroom hr; omega
    · omega
  · rcases List.mem_append.mp hx with hx | hx
    · exact hwait x hx hxpend i hi
    · rw [List.mem_singleton.mp hx] at hi ⊢
      exact hallows i hi

/-! ### The start of a round -/

theorem Record.isHost_eq_false {r : Record} : r.isHost = false ↔ r.kind = .poll ∨ r.kind = .probe := by
  unfold Record.isHost
  cases r.kind <;> simp [TxnKind.isHost]

/-- A record with an internal id is an internal record of that station. -/
theorem Record.safe.of_internalId {x : Record} (h : x.safe) {i : StationId}
    (hid : x.id = 0xF000 + i.val ∨ x.id = 0xF100 + i.val) : x.isHost = false ∧ x.target = .station i := by
  obtain ⟨-, -, -, hkind⟩ := h
  rw [Record.isHost_eq_false]
  split at hkind
  · next hk =>
    obtain ⟨j, hj, hxid⟩ := hkind
    obtain rfl : j = i := Fin.ext (by omega)
    exact ⟨Or.inl hk, hj⟩
  · next hk =>
    obtain ⟨j, hj, hxid⟩ := hkind
    obtain rfl : j = i := Fin.ext (by omega)
    exact ⟨Or.inr hk, hj⟩
  all_goals omega

/-- A record with a host id is a host record. -/
theorem Record.safe.isHost_of_id {x : Record} (h : x.safe) (hid : x.id ≤ 0xEFFF) : x.isHost = true := by
  obtain ⟨-, -, -, hkind⟩ := h
  by_contra hx
  rcases Record.isHost_eq_false.mp (by simpa using hx) with hk | hk <;> rw [hk] at hkind <;>
    obtain ⟨j, -, hj⟩ := hkind <;> omega

theorem Station.generated_state (st : Station) (k : TxnKind) (c : Round) : (st.generated k c).state = st.state := by
  cases k <;> rfl

/-- What a station's schedule calls for can wait there (R88, R90). -/
theorem Station.calls_allows {st : Station} {c : Round} {k : TxnKind} (h : st.calls c = some k) (i : StationId) :
    (internalRecord k i c).stationAllows st.state := by
  unfold Station.calls at h
  split at h
  · cases h
  · next hs =>
    split at h
    · cases h; exact Or.inl hs
    · cases h
  · next hs => cases h; exact Or.inr hs
  · next hs =>
    split at h
    · cases h; exact Or.inl hs
    · cases h
  · next hs =>
    split at h
    · cases h; exact Or.inr hs
    · cases h

theorem State.call_eq_some {s : State} {i : StationId} {k : TxnKind} (h : s.call i = some k) :
    (s.station i).calls s.engine.counter = some k ∧ ∀ x ∈ s.txns, x.isHost = false → x.target ≠ .station i := by
  rw [State.call] at h
  split at h
  · cases h
  · next hnone =>
    refine ⟨h, fun x hx hint ht => hnone (List.any_eq_true.mpr ⟨x, hx, ?_⟩)⟩
    simp [Record.names, hint, ht]

theorem internalRecord_safe {k : TxnKind} (hk : k = .poll ∨ k = .probe) (i : StationId) (c : Round) :
    (internalRecord k i c).safe := by
  rcases hk with rfl | rfl <;> exact ⟨Nat.le_refl 0, Nat.zero_le 7, nofun, i, rfl, rfl⟩

/-- A change of a station record that is no change of its state. -/
theorem State.txnsSafe.setStation {s : State} (h : s.txnsSafe) {i : StationId} {v : Station}
    (hv : v.state = (s.station i).state) : (s.setStation i v).txnsSafe := by
  refine ⟨h.1, h.2.of_waiting (fun r hr hpend => ⟨r, hr, hpend, rfl, rfl⟩) fun j => ?_⟩
  rw [State.station_setStation]
  split
  · next e => rw [e, hv]
  · rfl

theorem State.txnsSafe.generateFor {s : State} (h : s.txnsSafe) (i : StationId) : (s.generateFor i).txnsSafe := by
  cases hc : s.call i with
  | none => rwa [State.generateFor_none hc]
  | some k =>
    rw [State.generateFor_some hc]
    have hk := State.call_cases hc
    obtain ⟨hcalls, hnone⟩ := State.call_eq_some hc
    have hint : (internalRecord k i s.engine.counter).isHost = false := Record.isHost_eq_false.mpr hk
    refine State.txnsSafe.setStation (h.append (internalRecord_safe hk i _) rfl (fun x hx hid => ?_) (fun _ j hj => ?_)
      (fun hhost => ?_) fun j hj => ?_) (Station.generated_state _ _ _)
    · obtain ⟨hxint, hxt⟩ := (h.records.safe hx).of_internalId (i := i) (by
        rcases hk with rfl | rfl
        · exact Or.inl hid
        · exact Or.inr hid)
      exact hnone x hx hxint hxt
    · cases hj; exact hnone
    · rw [hint] at hhost; cases hhost
    · cases hj; exact Station.calls_allows hcalls i

theorem State.txnsSafe.generate {s : State} (h : s.txnsSafe) (l : List StationId) : (s.generate l).txnsSafe := by
  induction l generalizing s with
  | nil => exact h
  | cons i rest ih => exact ih (h.generateFor i)

theorem State.txnsSafe.staleOccurrences {s : State} (h : s.txnsSafe) (l : List SegmentIndex) :
    (s.staleOccurrences l).txnsSafe := by
  induction l generalizing s with
  | nil => exact h
  | cons k rest ih => exact ih (h.occur _ _)

theorem State.txnsSafe.roundReports {s : State} (h : s.txnsSafe) (missing : Bool) :
    (s.roundReports missing).txnsSafe := by
  unfold State.roundReports
  refine State.txnsSafe.completeAll (State.txnsSafe.staleOccurrences ?_ _) _ _
  have hu : ((if missing = true then s.occur srcTrigger .missing else s).setEngine
      { s.engine with counter := s.engine.counter + 1 }).txnsSafe := by
    split
    · exact h.occur srcTrigger .missing
    · exact h
  dsimp only
  split
  · exact hu.occur _ _
  · exact hu

/-- Anchoring and becoming due leave the transaction, and PENDING or ON_LINE (R51). -/
theorem Record.atRoundStart_keeps (c : Round) (r : Record) (h : r.safe) :
    r.sameTxn (r.atRoundStart c) ∧ (r.atRoundStart c).safe ∧ (r.atRoundStart c).onLine = r.onLine := by
  unfold Record.atRoundStart
  split <;> exact ⟨⟨rfl, rfl, rfl, rfl, rfl, rfl⟩, h, rfl⟩

theorem State.txnsSafe.startRound {s : State} (h : s.txnsSafe) (missing : Bool) : (s.startRound missing).txnsSafe := by
  rw [State.startRound_eq]
  have hrep := h.roundReports missing
  have hlist : (((s.roundReports missing).setEngine (s.engine.atRoundStart s.now)).setTxns
      ((s.roundReports missing).txns.map (Record.atRoundStart (s.engine.counter + 1)))).txnsSafe :=
    hrep.map fun r hr => Record.atRoundStart_keeps _ r (hrep.records.safe hr)
  exact (hlist.generate allStations).of_eq (by simp) (by simp) (by simp) (by simp [State.completions])

/-! ### Attempt starts -/

theorem State.inFlight_eq_none {s : State} (h : s.inFlight = none) : ∀ x ∈ s.txns, x.onLine = false := fun x hx => by
  simpa using List.find?_eq_none.mp h x hx

/-- The start of an attempt ties the record to it (R57). -/
theorem State.txnsSafe.startAttempt {s : State} (h : s.txnsSafe) (hidle : s.inFlight = none) {r : Record}
    (hr : r ∈ s.txns) : (s.startAttempt r).txnsSafe := by
  obtain ⟨⟨hrec, hadm, -⟩, hwait⟩ := h
  have hoff := State.inFlight_eq_none hidle
  have hsame (x : Record) : x.sameTxn (if x.id = r.id then { x with onLine := true } else x) := by
    split <;> exact ⟨rfl, rfl, rfl, rfl, rfl, rfl⟩
  refine ⟨⟨hrec.map fun x hx => ⟨hsame x, ?_⟩, ?_, ?_⟩, hwait.of_waiting (fun y hy hpend => ?_) fun _ => rfl⟩
  · obtain ⟨hatt, hbudget, -, hkind⟩ := hrec.safe hx
    split
    · exact ⟨hatt, hbudget, fun _ => rfl, hkind⟩
    · exact hrec.safe hx
  · rw [State.admission_eq, State.startAttempt_txns, markOnLine, countP_isHost_map fun x _ => hsame x]
    exact hadm
  · refine ⟨{ r with onLine := true }, List.mem_map.mpr ⟨r, hr, if_pos rfl⟩, rfl, ⟨rfl, rfl, rfl, rfl, rfl⟩,
      fun y hy hon => ?_⟩
    obtain ⟨x, hx, rfl⟩ := List.mem_map.mp hy
    by_cases hid : x.id = r.id
    · rw [if_pos hid]; exact hid
    · rw [if_neg hid, hoff x hx] at hon; cases hon
  · obtain ⟨x, hx, rfl⟩ := List.mem_map.mp hy
    exact ⟨x, hx, hoff x hx, (hsame x).kind.symm, (hsame x).target.symm⟩

theorem State.txnsSafe.walk {s : State} (h : s.txnsSafe) : s.walk.txnsSafe := by
  have hold (u : State) (r : Record) (hu : u.txnsSafe ∧ u.txns = s.txns) :
      (u.holdPoll r).txnsSafe ∧ (u.holdPoll r).txns = s.txns := by
    refine ⟨?_, (u.holdPoll_txns r).trans hu.2⟩
    obtain e | ⟨i, -, -, e⟩ := u.holdPoll_cases r
    · rw [e]; exact hu.1
    · have hset (v : Scheduler) : (u.setSched v).txnsSafe := hu.1
      rw [e]; exact (hset _).occur _ _
  obtain ⟨u, ⟨hu, htxns⟩, e | ⟨-, -, -, -, hidle, r, hr, -, -, -, -, e⟩⟩ := State.walk_cases hold ⟨h, rfl⟩
  · exact e ▸ hu
  · rw [e]
    exact hu.startAttempt (by rw [State.inFlight, htxns]; exact hidle) (htxns ▸ hr)

/-! ### The record of an attempt that ends -/

/-- A station has one internal record. -/
theorem recordsSafe.internal_unique {l : List Record} (h : recordsSafe l) {x y : Record} (hx : x ∈ l) (hy : y ∈ l)
    {i : StationId} (hxi : x.isHost = false ∧ x.target = .station i) (hyi : y.isHost = false ∧ y.target = .station i) :
    x = y := by
  obtain ⟨-, -, hone⟩ := h
  have hmem {z : Record} (hz : z ∈ l) (hzi : z.isHost = false ∧ z.target = .station i) :
      z ∈ l.filter fun r => !r.isHost && r.names i :=
    List.mem_filter.mpr ⟨hz, by simp [Record.names, hzi]⟩
  have hlen := hone i
  rw [List.countP_eq_length_filter] at hlen
  obtain ⟨n, hn⟩ := List.getElem_of_mem (hmem hx hxi)
  obtain ⟨m, hm⟩ := List.getElem_of_mem (hmem hy hyi)
  obtain ⟨hnl, hn⟩ := hn
  obtain ⟨hml, hm⟩ := hm
  obtain rfl : n = m := by omega
  exact hn.symm.trans hm

/-- While an attempt is on the line the in-flight marker names its record, the only one ON_LINE. -/
theorem State.listSafeWith.inFlight {s : State} {a : Attempt} (h : s.listSafeWith (some a)) :
    ∃ r ∈ s.txns, s.inFlight = some r ∧ a.isOf r ∧ ∀ x ∈ s.txns, x.onLine = true → x = r := by
  obtain ⟨hrec, -, r, hr, hon, hof, hone⟩ := h
  have hunique (x : Record) (hx : x ∈ s.txns) (hxon : x.onLine = true) : x = r := hrec.eq_of_id hx hr (hone x hx hxon)
  refine ⟨r, hr, ?_, hof, hunique⟩
  obtain ⟨x, hx⟩ := Option.isSome_iff_exists.mp (List.find?_isSome.mpr ⟨r, hr, hon⟩)
  rw [State.inFlight, hx, hunique x (List.mem_of_find?_eq_some hx) (List.find?_some hx)]

/-- The list's treatment of the record in flight: removal, a retry, or a completion (R56, R59). -/
theorem State.treatRecord_of_inFlight {s : State} {r : Record} (hr : s.inFlight = some r) (res : AttemptResult) :
    s.treatRecord res =
      if r.isHost = false then s.setTxns (dropRecord r.id s.txns)
      else if res.outcome.retryable = true ∧ s.mayRetry (r.attempted res) = true then
        s.setTxns (replaceRecord (r.attempted res) s.txns)
      else (s.setTxns (dropRecord r.id s.txns)).queueReport
        (.completion ((r.attempted res).attemptCompletion res s.engine.counter)) := by
  rw [State.treatRecord, hr]

/-- A host record and its place in the admission count go to its completion (R55). -/
theorem State.admission_complete_le {s : State} {r : Record} (hr : r ∈ s.txns) (hhost : r.isHost = true)
    (c : Completion) :
    ((s.setTxns (dropRecord r.id s.txns)).queueReport (.completion c)).admission ≤ s.admission := by
  have hcount := List.countP_eq_countP_filter_add s.txns (fun x => x.isHost) (fun x => x.id != r.id)
  have hpos : 0 < (s.txns.filter fun x => !(x.id != r.id)).countP fun x => x.isHost :=
    List.countP_pos_iff.mpr ⟨r, List.mem_filter.mpr ⟨hr, by simp⟩, hhost⟩
  have hqueue : ((s.setTxns (dropRecord r.id s.txns)).queueReport (.completion c)).completions = s.completions + 1 := by
    rw [State.completions, State.queueReport_reports, List.countP_append]; rfl
  rw [State.admission_eq, State.admission_eq, hqueue, State.queueReport_txns, State.setTxns_txns, dropRecord]
  omega

/-- The conditions of a retry that the list's bounds and waiting rest on (R60). -/
theorem State.mayRetry_bounds {s : State} {r : Record} (h : s.mayRetry r = true) :
    r.attempts ≤ r.retryBudget ∧ r.cancelRequested = false ∧ s.stationReady r.target = true := by
  simp only [State.mayRetry, Bool.and_eq_true, decide_eq_true_eq, Bool.not_eq_true'] at h
  obtain ⟨⟨⟨hatt, hcancel⟩, hready⟩, -⟩ := h
  exact ⟨hatt, hcancel, hready⟩

/-- Without the record in flight no record is ON_LINE. -/
theorem attemptTied_dropRecord {l : List Record} {r : Record} (h : ∀ x ∈ l, x.onLine = true → x = r) :
    attemptTied (dropRecord r.id l) none := by
  intro x hx
  obtain ⟨hmem, hid⟩ := List.mem_filter.mp hx
  by_contra hon
  rw [h x hmem (by simpa using hon)] at hid
  simp at hid

/-- The treatment of the record whose attempt has ended keeps the list safe without an attempt. -/
theorem State.listSafeWith.treatRecord {s : State} {a : Attempt} (h : s.listSafeWith (some a)) (res : AttemptResult) :
    (s.treatRecord res).listSafeWith none := by
  obtain ⟨r, hr, hflight, -, hunique⟩ := h.inFlight
  obtain ⟨hrec, hadm, -⟩ := h
  have hdrop := hrec.filter fun x => x.id != r.id
  rw [State.treatRecord_of_inFlight hflight]
  split
  · refine ⟨hdrop, le_trans ?_ hadm, attemptTied_dropRecord hunique⟩
    exact Nat.add_le_add_right List.filter_sublist.countP_le _
  · next hhost =>
    split
    · next hretry =>
      obtain ⟨hatt, hcancel, -⟩ := State.mayRetry_bounds hretry.2
      have hsame (x : Record) (hx : x ∈ s.txns) :
          x.sameTxn (if x.id = (r.attempted res).id then r.attempted res else x) := by
        split
        · next hid =>
          rw [hrec.eq_of_id hx hr hid]
          exact ⟨rfl, rfl, rfl, rfl, rfl, rfl⟩
        · exact Record.sameTxn_self x
      refine ⟨hrec.map fun x hx => ⟨hsame x hx, ?_⟩, ?_, fun y hy => ?_⟩
      · split
        · obtain ⟨-, hbudget, -, hkind⟩ := hrec.safe hr
          exact ⟨hatt, hbudget, by simp [hcancel], hkind⟩
        · exact hrec.safe hx
      · rw [State.admission_eq, State.setTxns_txns, replaceRecord, countP_isHost_map hsame]
        exact hadm
      · obtain ⟨x, hx, rfl⟩ := List.mem_map.mp hy
        split
        · rfl
        · next hid =>
          by_contra hon
          exact hid (by rw [hunique x hx (by simpa using hon)]; rfl)
    · exact ⟨hdrop, (State.admission_complete_le hr (by simpa using hhost) _).trans hadm,
        attemptTied_dropRecord hunique⟩

/-- The records after the treatment: those that waited before it, and the record in flight if it is tried again at a
station that is ready for it. -/
theorem State.mem_treatRecord {s : State} {r x : Record} {res : AttemptResult} (hr : s.inFlight = some r)
    (hx : x ∈ (s.treatRecord res).txns) :
    (x ∈ s.txns ∧ x.id ≠ r.id) ∨ (r.isHost = true ∧ x = r.attempted res ∧ s.stationReady r.target = true) := by
  have hdrop (h : x ∈ dropRecord r.id s.txns) : x ∈ s.txns ∧ x.id ≠ r.id := by
    simpa [dropRecord] using h
  rw [State.treatRecord_of_inFlight hr] at hx
  split at hx
  · exact Or.inl (hdrop hx)
  · next hhost =>
    split at hx
    · next hretry =>
      obtain ⟨-, -, hready⟩ := State.mayRetry_bounds hretry.2
      obtain ⟨y, hy, rfl⟩ := List.mem_map.mp hx
      by_cases hid : y.id = (r.attempted res).id
      · rw [if_pos hid]; exact Or.inr ⟨by simpa using hhost, rfl, hready⟩
      · rw [if_neg hid]; exact Or.inl ⟨hy, hid⟩
    · exact Or.inl (hdrop hx)

/-! ### What an attempt's result makes of its station -/

/-- A change of station state leads from one state to another (R117 to R124). -/
def StationChange.leads (c : StationChange) (k : TxnKind) (old new : StationState) : Prop :=
  match c with
  | .unchanged => new = old
  | .joined => new = .online ∧ k = .probe ∧ (old = .offline ∨ old = .resync)
  | .recovered => new = .online ∧ old = .suspect
  | .suspected => new = .suspect ∧ old = .online
  | .lost => new = .offline
  | .resynced => new = .resync ∧ (old = .online ∨ old = .suspect)

theorem Station.failTowardsLoss_leads (st : Station) (k : TxnKind) (now : Round) :
    (st.failTowardsLoss now).2.leads k st.state (st.failTowardsLoss now).1.state := by
  unfold Station.failTowardsLoss
  split <;> rfl

theorem Station.applyState_leads (st : Station) (k : TxnKind) (o : TxnOutcome) (ident : Option Identity) (now : Round) :
    (st.applyState k o ident now).2.leads k st.state (st.applyState k o ident now).1.state := by
  unfold Station.applyState
  cases hs : st.state with
  | disabled =>
    dsimp only
    split
    · rfl
    · exact hs
  | offline =>
    dsimp only
    split
    · next hk =>
      unfold Station.probedOffline
      split
      · exact ⟨rfl, hk, Or.inl rfl⟩
      · exact hs
    · exact hs
  | resync =>
    dsimp only
    split
    · next hk =>
      unfold Station.probedResync
      split
      · exact ⟨rfl, hk, Or.inr rfl⟩
      · split
        · exact hs
        · exact hs ▸ st.failTowardsLoss_leads k now
    · exact hs
  | online =>
    dsimp only
    split
    · exact hs
    · unfold Station.answeredOnline
      split_ifs
      · exact hs
      · exact ⟨rfl, Or.inl rfl⟩
      · exact ⟨rfl, rfl⟩
      · exact hs
      · exact hs
  | suspect =>
    dsimp only
    split
    · exact hs
    · unfold Station.answeredSuspect
      split_ifs
      · exact ⟨rfl, rfl⟩
      · exact ⟨rfl, Or.inr rfl⟩
      · exact hs ▸ st.failTowardsLoss_leads k now
      · exact hs

theorem Station.applyResult_leads (st : Station) (k : TxnKind) (o : TxnOutcome) (ident : Option Identity)
    (word : Option (BitVec 12)) (now : Round) :
    (st.applyResult k o ident word now).2.leads k st.state (st.applyResult k o ident word now).1.state := by
  have h := Station.applyState_leads { st with seqNext := st.seqAfter k o } k o ident now
  unfold Station.applyResult
  cases word <;> exact h

/-- A record that could wait at its station before a change can wait there after it, but for those that the change's
flush removes, and for a PROBE at a station that joins (R65, R90). -/
theorem Record.stationAllows.of_leads {x : Record} {c : StationChange} {k : TxnKind} {old new : StationState}
    (h : x.stationAllows old) (hc : c.leads k old new) (hlost : c ≠ .lost) (hpoll : c = .resynced → x.kind ≠ .poll)
    (hprobe : c = .joined → x.kind ≠ .probe) : x.stationAllows new := by
  unfold Record.stationAllows at h ⊢
  cases c with
  | unchanged => obtain rfl : new = old := hc; exact h
  | joined =>
    obtain ⟨rfl, -, hold⟩ := hc
    cases hk : x.kind with
    | poll => rcases hold with rfl | rfl <;> simp [hk] at h
    | probe => exact absurd hk (hprobe rfl)
    | _ => exact Or.inl rfl
  | recovered =>
    obtain ⟨rfl, rfl⟩ := hc
    cases hk : x.kind with
    | probe => simp [hk] at h
    | _ => exact Or.inl rfl
  | suspected =>
    obtain ⟨rfl, rfl⟩ := hc
    cases hk : x.kind with
    | probe => simp [hk] at h
    | poll => exact Or.inr rfl
    | _ => exact Or.inr (Or.inl rfl)
  | lost => exact absurd rfl hlost
  | resynced =>
    obtain ⟨rfl, hold⟩ := hc
    cases hk : x.kind with
    | probe => rcases hold with rfl | rfl <;> simp [hk] at h
    | poll => exact absurd hk (hpoll rfl)
    | _ => exact Or.inr (Or.inr rfl)

/-! ### The end of an attempt -/

/-- The message of a POLL leaves the list, the stations' states and the completions. -/
theorem State.arrive_completions (s : State) (m : Message) : (s.arrive m).completions = s.completions := by
  unfold State.arrive State.keepMessage
  dsimp only
  split_ifs
  · exact State.completions_occur _ _ _
  · rfl
  · rfl

theorem State.arrive_state (s : State) (m : Message) (j : StationId) :
    ((s.arrive m).station j).state = (s.station j).state := by
  unfold State.arrive
  split
  · unfold State.keepMessage
    dsimp only
    split
    · rw [State.station, State.occur_stations]; rfl
    · rfl
  · rw [State.discardMessage, State.station_setStation]
    split
    · next e => rw [e]
    · rfl

theorem State.inboundResult_completions (s : State) (a : Attempt) (o : TxnOutcome) :
    (s.inboundResult a o).completions = s.completions := by
  unfold State.inboundResult
  split
  · rfl
  · split
    · exact s.arrive_completions _
    · rfl

theorem State.inboundResult_state (s : State) (a : Attempt) (o : TxnOutcome) (j : StationId) :
    ((s.inboundResult a o).station j).state = (s.station j).state := by
  unfold State.inboundResult
  split
  · rfl
  · split
    · exact s.arrive_state _ j
    · rfl

theorem State.stationEvents_completions (s : State) (i : StationId) (c : StationChange) (a : Attempt) (o : TxnOutcome) :
    (s.stationEvents i c a o).completions = s.completions := by
  unfold State.stationEvents
  dsimp only
  split <;> split <;> simp

theorem State.listSafeWith.flushFor {s : State} {att : Option Attempt} (h : s.listSafeWith att) (i : StationId)
    (c : StationChange) : (s.flushFor i c).listSafeWith att := by
  unfold State.flushFor
  split
  · exact (h.completeAll _ _).removeInternal _
  · exact h.removeInternal _
  all_goals exact h

/-- No record waits for a station after its host records have completed and its internal one has been removed. -/
theorem State.mem_flushStation {s : State} {i : StationId} {o : TxnOutcome} {x : Record}
    (hx : x ∈ ((s.completeAll (Record.names i) o).removeInternal (Record.names i)).txns) (hpend : x.onLine = false) :
    x ∈ s.txns ∧ x.target ≠ .station i := by
  rw [State.removeInternal_txns, State.completeAll_txns, List.filter_filter, List.mem_filter] at hx
  obtain ⟨hmem, hkept⟩ := hx
  refine ⟨hmem, fun ht => ?_⟩
  cases hhost : x.isHost <;> simp [Record.pendingHost, Record.pendingInternal, Record.names, hhost, hpend, ht] at hkept

/-- The PENDING records that a change of the station leaves in the list (R65). -/
theorem State.mem_flushFor {s : State} {i : StationId} {c : StationChange} {x : Record}
    (hx : x ∈ (s.flushFor i c).txns) (hpend : x.onLine = false) :
    x ∈ s.txns ∧ (x.target = .station i → c ≠ .lost ∧ (c = .resynced → x.kind ≠ .poll)) := by
  unfold State.flushFor at hx
  split at hx
  · obtain ⟨hmem, hother⟩ := State.mem_flushStation hx hpend
    exact ⟨hmem, fun ht => absurd ht hother⟩
  · rw [State.removeInternal_txns, List.mem_filter] at hx
    obtain ⟨hmem, hkept⟩ := hx
    refine ⟨hmem, fun ht => ⟨nofun, fun _ hk => ?_⟩⟩
    have hint : x.isHost = false := Record.isHost_eq_false.mpr (Or.inl hk)
    simp [Record.pendingInternal, Record.names, hint, hpend, ht, hk] at hkept
  all_goals exact ⟨hx, fun _ => ⟨nofun, nofun⟩⟩

/-- A host record can wait where an attempt of it may be tried again. -/
theorem Record.stationAllows_of_ready {s : State} {r : Record} (hhost : r.isHost = true)
    (hready : s.stationReady r.target = true) {i : StationId} (hi : r.target = .station i) :
    r.stationAllows (s.station i).state := by
  simp only [State.stationReady, hi, Bool.or_eq_true, beq_iff_eq] at hready
  have hkind : ¬ (r.kind = .poll ∨ r.kind = .probe) := fun e => by simp [Record.isHost_eq_false.mpr e] at hhost
  unfold Record.stationAllows
  cases hk : r.kind <;> simp [hk] at hkind ⊢ <;> tauto

theorem State.handOn_state (s : State) (i : StationId) (a : Attempt) (o : TxnOutcome) (j : StationId) :
    ((s.handOn i a o).station j).state = ((s.stationResult i a o).1.station j).state := by
  rw [← State.inboundResult_state (s.stationResult i a o).1 a o j]
  simp only [State.handOn, State.station, State.stationEvents_stations, State.flushFor_stations,
    State.treatRecord_stations]

/-- The results of an attempt to a station are handed on: the list is safe again, without an attempt. -/
theorem State.listSafeWith.handOn {s : State} {a : Attempt} (h : s.listSafeWith (some a)) (i : StationId)
    (o : TxnOutcome) : (s.handOn i a o).listSafeWith none := by
  have hinbound : ((s.stationResult i a o).1.inboundResult a o).listSafeWith (some a) :=
    h.of_eq (by simp) (by rw [State.inboundResult_completions]; rfl)
  unfold State.handOn
  exact ((hinbound.treatRecord _).flushFor i _).of_eq (by simp) (State.stationEvents_completions ..).le

/-- After the station's flush no record waits at a station where it cannot. -/
theorem State.waitingSafe.handOn {s : State} {a : Attempt} (h : s.listSafeWith (some a)) (hwait : s.waitingSafe)
    {i : StationId} (ha : a.target = .station i) (o : TxnOutcome) : (s.handOn i a o).waitingSafe := by
  intro x hx hpend j hj
  rw [State.handOn_state]
  rw [State.handOn, State.stationEvents_txns] at hx
  obtain ⟨hx, hkept⟩ := State.mem_flushFor hx hpend
  obtain ⟨r, hr, hflight, ⟨hkind, htarget, -⟩, hunique⟩ := h.inFlight
  have hflight' : ((s.stationResult i a o).1.inboundResult a o).inFlight = some r := by
    rw [State.inFlight, State.inboundResult_txns]; exact hflight
  obtain ⟨hmem, hid⟩ | ⟨hhost, rfl, hready⟩ := State.mem_treatRecord hflight' hx
  · rw [State.inboundResult_txns, State.stationResult_txns] at hmem
    have hallows := hwait x hmem hpend j hj
    show x.stationAllows ((s.setStation i _).station j).state
    rw [State.station_setStation]
    split
    · next hji =>
      subst hji
      obtain ⟨hlost, hpoll⟩ := hkept hj
      have hleads := (s.station j).applyResult_leads a.kind o (a.identityFor o) a.word s.engine.counter
      refine hallows.of_leads hleads hlost hpoll fun hjoin hprobe => hid ?_
      unfold StationChange.leads at hleads
      rw [show (Station.applyResult _ _ _ _ _ _).2 = _ from hjoin] at hleads
      obtain ⟨-, hakind, -⟩ := hleads
      exact congrArg Record.id (h.1.internal_unique hmem hr
        ⟨Record.isHost_eq_false.mpr (Or.inr hprobe), hj⟩
        ⟨Record.isHost_eq_false.mpr (Or.inr (hkind.symm.trans hakind)), htarget.symm.trans ha⟩)
    · exact hallows
  · rw [← State.inboundResult_state]
    exact Record.stationAllows_of_ready (r := r.attempted _) hhost hready hj

/-- An attempt to broadcast ends: no station takes part (R104). -/
theorem State.waitingSafe.treatRecord_broadcast {s : State} {a : Attempt} (h : s.listSafeWith (some a))
    (hwait : s.waitingSafe) (ha : a.target = .broadcast) (res : AttemptResult) : (s.treatRecord res).waitingSafe := by
  intro x hx hpend j hj
  obtain ⟨r, -, hflight, ⟨-, htarget, -⟩, -⟩ := h.inFlight
  rw [State.station, State.treatRecord_stations, ← State.station]
  obtain ⟨hmem, -⟩ | ⟨-, rfl, -⟩ := State.mem_treatRecord hflight hx
  · exact hwait x hmem hpend j hj
  · cases (htarget.symm.trans ha).symm.trans hj

theorem State.txnsSafe.endAttempt {s : State} (h : s.txnsSafe) {a : Attempt} (ha : s.attempt = some a)
    (o : TxnOutcome) : (s.endAttempt a o).txnsSafe := by
  obtain ⟨hlist, hwait⟩ := h
  rw [ha] at hlist
  have hlist' : (s.setAttempt none).listSafeWith (some a) := hlist
  have hwait' : (s.setAttempt none).waitingSafe := hwait
  unfold State.endAttempt
  refine State.txnsSafe.walk ?_
  split
  · next i hi =>
    refine ⟨?_, State.waitingSafe.handOn hlist' hwait' hi o⟩
    rw [State.handOn_attempt]
    exact hlist'.handOn i o
  · next hb =>
    refine ⟨?_, State.waitingSafe.treatRecord_broadcast hlist' hwait' hb _⟩
    rw [State.treatRecord_attempt]
    exact hlist'.treatRecord _

/-! ### What the line and the turn do -/

/-- The attempt moves on with its transaction. -/
theorem State.txnsSafe.setAttempt {s : State} (h : s.txnsSafe) {a a' : Attempt} (ha : s.attempt = some a)
    (hof : ∀ r, a.isOf r → a'.isOf r) : (s.setAttempt (some a')).txnsSafe := by
  obtain ⟨⟨hrec, hadm, htied⟩, hwait⟩ := h
  rw [ha] at htied
  obtain ⟨r, hr, hon, hr', hone⟩ := htied
  exact ⟨⟨hrec, hadm, r, hr, hon, hof r hr', hone⟩, hwait⟩

theorem Attempt.takeFrame_isOf {a : Attempt} {r : Record} (p : HeaderPolicy) (f : DecodedFrame) (h : a.isOf r) :
    (a.takeFrame p f).isOf r := by
  unfold Attempt.takeFrame
  split
  · unfold Attempt.takeFirst
    dsimp only
    split <;> exact h
  · unfold Attempt.takeTrailer
    dsimp only
    split <;> exact h
  all_goals exact h

theorem Attempt.cutOff_isOf {a : Attempt} {r : Record} (h : a.isOf r) : a.cutOff.isOf r := by
  unfold Attempt.cutOff
  split <;> exact h

theorem State.txnsSafe.frameSent {s : State} (h : s.txnsSafe) (f : SendFrame) : (s.frameSent f).txnsSafe := by
  unfold State.frameSent
  split
  · exact h
  · next a ha =>
    split
    · exact h.setAttempt ha fun _ hr => hr
    · split
      · exact State.txnsSafe.endAttempt (s := s.goQuiet) h ha _
      · exact h

theorem State.txnsSafe.abortFrame {s : State} (h : s.txnsSafe) (f : SendFrame) : (s.abortFrame f).txnsSafe := by
  unfold State.abortFrame
  split
  · split
    · next ha => exact h.setAttempt ha fun _ hr => hr
    · exact h
  · exact h

theorem State.txnsSafe.countContention {s : State} (h : s.txnsSafe) (f : SendFrame) :
    (s.countContention f).txnsSafe := by
  have hline (v : LineIface) : (s.setLine v).txnsSafe := h
  exact (hline _).occur _ _

theorem State.txnsSafe.contend {s : State} (h : s.txnsSafe) : s.contend.txnsSafe := by
  unfold State.contend
  split
  · next f _ =>
    have hline (v : LineActivity) : (s.setActivity v).txnsSafe := h
    split
    · exact h
    · split
      · exact (h.countContention f).abortFrame f
      · exact (hline _).countContention f
  all_goals exact h

theorem State.txnsSafe.guardEnded {s : State} (h : s.txnsSafe) : s.guardEnded.txnsSafe := by
  unfold State.guardEnded
  split
  · next ha =>
    split
    · exact h.setAttempt ha fun _ hr => hr
    · exact h
  · exact h

theorem State.txnsSafe.stationStart {s : State} (h : s.txnsSafe) : s.stationStart.txnsSafe := by
  unfold State.stationStart
  split
  · next ha => exact h.setAttempt ha fun _ hr => hr
  · exact h
  · exact h

theorem State.txnsSafe.responseExpired {s : State} (h : s.txnsSafe) : s.responseExpired.txnsSafe := by
  unfold State.responseExpired
  split
  · next ha => exact h.setAttempt ha fun _ hr => hr
  · exact h

theorem State.txnsSafe.deliver {s : State} (h : s.txnsSafe) (bytes : Bytes) (e : FrameEnd) :
    (s.deliver bytes e).txnsSafe := by
  unfold State.deliver
  split
  · exact h
  · next a ha =>
    have h' := h.setAttempt ha fun _ hr => Attempt.takeFrame_isOf s.line.config.headerPolicy
      (decodeStationFrame s.line.config.crcCheck bytes e) hr
    dsimp only
    split <;> exact h'

theorem State.txnsSafe.talkExpired {s : State} (h : s.txnsSafe) : s.talkExpired.txnsSafe := by
  unfold State.talkExpired
  split
  · next ha => exact h.setAttempt ha fun _ hr => Attempt.cutOff_isOf hr
  · exact h

theorem State.txnsSafe.reclaimed {s : State} (h : s.txnsSafe) : s.reclaimed.txnsSafe := by
  unfold State.reclaimed
  split
  · next ha => exact State.txnsSafe.endAttempt (s := s.goQuiet) h ha _
  · exact h

/-! ### What the rounds do -/

theorem State.txnsSafe.settleExpired {s : State} (h : s.txnsSafe) : s.settleExpired.txnsSafe := by
  unfold State.settleExpired
  split
  · exact h.startRound _
  · exact h

theorem State.txnsSafe.trigEdge {s : State} (h : s.txnsSafe) : s.trigEdge.txnsSafe := by
  unfold State.trigEdge
  split
  · exact h
  · split
    · exact h
    · exact h.occur _ _
  · split
    · exact h
    · split
      · exact h
      · exact h.occur _ _
  all_goals exact h

theorem State.txnsSafe.sendSegment {s : State} (h : s.txnsSafe) : s.sendSegment.txnsSafe := by
  unfold State.sendSegment
  split
  · dsimp only
    split <;> exact h
  · exact h

theorem State.txnsSafe.openGap {s : State} (h : s.txnsSafe) : s.openGap.txnsSafe := by
  unfold State.openGap
  split
  · exact State.txnsSafe.walk (s := (s.setEngine _).setSched _) h
  · exact h

theorem State.txnsSafe.enterStopped {s : State} (h : s.txnsSafe) : s.enterStopped.txnsSafe := by
  have hout : (((s.setActivity .off).setEngine (s.engine.endRun .stopped)).closeGap).txnsSafe := h
  exact (hout.flushAll _).occur _ _

theorem State.txnsSafe.enterHalted {s : State} (h : s.txnsSafe) : s.enterHalted.txnsSafe := by
  have hout : (((s.setEngine (s.engine.endRun .halted)).setActivity .off).closeGap).txnsSafe := h
  exact ((hout.flushAll _).occur _ _).occur _ _

/-! ### What the requests do -/

theorem State.txnsSafe.beginRun {s : State} (h : s.txnsSafe) : s.beginRun.txnsSafe := by
  rw [State.beginRun_eq]
  exact h.completeAll _ _

theorem State.txnsSafe.stopRunning {s : State} (h : s.txnsSafe) : s.stopRunning.txnsSafe := by
  unfold State.stopRunning
  dsimp only
  split
  · exact State.txnsSafe.enterStopped (s := (s.setEngine _).closeGap) h
  · exact h

theorem State.txnsSafe.stop {s : State} (h : s.txnsSafe) : s.stop.txnsSafe := by
  unfold State.stop
  split
  · exact h
  · exact h.enterStopped
  · exact h.stopRunning
  · exact h
  · have hengine (v : Engine) : (s.setEngine v).txnsSafe := h
    exact (hengine _).occur _ _

/-- A station that becomes OFFLINE by ENABLE was DISABLED, where no record waits. -/
theorem State.txnsSafe.enableStation {s : State} (h : s.txnsSafe) (i : StationId) :
    (s.setStation i (s.station i).enabled).txnsSafe := by
  by_cases hs : (s.station i).state = .disabled
  · refine ⟨h.1, fun r hr hpend j hj => ?_⟩
    have hallows := h.2 r hr hpend j hj
    rw [State.station_setStation]
    split
    · next hji =>
      rw [hji, hs] at hallows
      unfold Record.stationAllows at hallows
      cases hk : r.kind <;> simp [hk] at hallows
    · exact hallows
  · exact h.setStation (by rw [Station.enabled, if_neg hs])

/-- DISABLE removes every record that waits for the station, before its state changes. -/
theorem State.txnsSafe.disableStation {s : State} (h : s.txnsSafe) (i : StationId) : (s.disableStation i).txnsSafe := by
  have hflushed := (h.completeAll (Record.names i) .stationDisabled).removeInternal (Record.names i)
  refine ⟨hflushed.1, fun r hr hpend j hj => ?_⟩
  have hallows := hflushed.2 r hr hpend j hj
  have hji : j ≠ i := by
    rintro rfl
    exact (State.mem_flushStation hr hpend).2 hj
  unfold State.disableStation
  rwa [State.station_setStation, if_neg hji]

/-- What SUBMIT's body says of its transaction: a host kind, and the ranges of R53. -/
theorem decodeSubmit_bounds {b : Bytes} {v : Submission} (h : decodeSubmit b = .ok v) :
    v.kind.isHost = true ∧ v.bounded := by
  have hb : ¬ (b.length < 14 ∨ b.length ≠ submitSize b) := fun e => by
    rw [decodeSubmit_badLength e] at h; cases h
  obtain ⟨hv, hbounds⟩ := (decodeSubmit_eq_ok hb).mp h
  exact ⟨hv.host, hbounds⟩

/-- A submission that passes the checks has a place in the list, a new id, and a station it may wait for (R53). -/
theorem State.submitCheck_none {s : State} {v : Submission} (h : s.submitCheck v = none) :
    s.admission < Config.admissionLimit ∧ (∀ x ∈ s.txns, x.id ≠ v.id)
    ∧ ∀ i, v.target = .station i → (s.station i).state ≠ .disabled ∧ (s.station i).state ≠ .offline := by
  unfold State.submitCheck at h
  split at h
  · cases h
  · split at h
    · cases h
    · next hroom =>
      split at h
      · cases h
      · next hid =>
        split at h
        · cases h
        · next hstation =>
          refine ⟨Nat.not_le.mp hroom, fun x hx hxid => hid (List.any_eq_true.mpr ⟨x, hx, by simp [hxid]⟩),
            fun i hi => ?_⟩
          unfold State.submitStationCheck at hstation
          rw [hi] at hstation
          dsimp only at hstation
          split at hstation
          · cases hstation
          · next hst => exact not_or.mp hst

/-- The record joins the list with the submission's fields, PENDING and without attempts (R54). -/
theorem State.submitted_fields (s : State) (v : Submission) :
    (s.submitted v).id = v.id ∧ (s.submitted v).kind = v.kind ∧ (s.submitted v).target = v.target
    ∧ (s.submitted v).attempts = 0 ∧ (s.submitted v).retryBudget = v.retryBudget ∧ (s.submitted v).onLine = false
    ∧ (s.submitted v).cancelRequested = false := by
  unfold State.submitted
  split <;> exact ⟨rfl, rfl, rfl, rfl, rfl, rfl, rfl⟩

theorem State.txnsSafe.submit {s : State} (h : s.txnsSafe) {b : Bytes} {v : Submission} (hv : decodeSubmit b = .ok v)
    (hc : s.submitCheck v = none) : (s.setTxns (s.txns ++ [s.submitted v])).txnsSafe := by
  obtain ⟨hhost, hidrange, hbroadcast, -, hbudget⟩ := decodeSubmit_bounds hv
  obtain ⟨hroom, hfresh, hstation⟩ := State.submitCheck_none hc
  obtain ⟨hid, hkind, htarget, hattempts, hretry, hpend, hcancel⟩ := s.submitted_fields v
  have hishost : (s.submitted v).isHost = true := by rw [Record.isHost, hkind, hhost]
  refine h.append ⟨by rw [hattempts]; exact Nat.zero_le _, hretry ▸ hbudget, by simp [hcancel], ?_⟩ hpend
    (fun x hx => hid ▸ hfresh x hx) (fun hint => ?_) (fun _ => hroom) fun i hi => ?_
  · rw [hkind, htarget, hid]
    cases hk : v.kind with
    | poll | probe => rw [hk] at hhost; cases hhost
    | send => exact hidrange
    | write | read => exact ⟨fun e => by simp [hbroadcast e] at hk, hidrange⟩
  · rw [hishost] at hint; cases hint
  · obtain ⟨hdisabled, hoffline⟩ := hstation i (htarget.symm.trans hi)
    unfold Record.stationAllows
    rw [hkind]
    cases hk : v.kind with
    | poll | probe => rw [hk] at hhost; cases hhost
    | _ => cases hs : (s.station i).state <;> simp [hs] at hdisabled hoffline ⊢

/-- CANCEL of a PENDING record: its completion takes its place in the admission count. -/
theorem State.txnsSafe.cancelPending {s : State} (h : s.txnsSafe) {r : Record} (hr : r ∈ s.txns)
    (hpend : r.onLine = false) (hid : r.id ≤ 0xEFFF) : (s.cancelPending r).txnsSafe := by
  refine ⟨h.1.filter (p := fun x => x.id != r.id) rfl (fun x hx hon => ?_)
    (State.admission_complete_le hr ((h.records.safe hr).isHost_of_id hid) _),
    h.2.of_subset (fun _ hx => List.mem_of_mem_filter hx) rfl⟩
  rw [bne_iff_ne]
  intro e
  rw [h.records.eq_of_id hx hr e, hpend] at hon
  cases hon

/-- CANCEL of the ON_LINE record marks it, and its attempt runs on (R61). -/
theorem State.txnsSafe.requestCancel {s : State} (h : s.txnsSafe) {r : Record} (hr : r ∈ s.txns)
    (hon : r.onLine = true) : (s.requestCancel r).txnsSafe := by
  refine h.map fun x hx => ?_
  split
  · next hid =>
    rw [h.records.eq_of_id hx hr hid]
    obtain ⟨hattempts, hbudget, -, hkind⟩ := h.records.safe hr
    exact ⟨⟨rfl, rfl, rfl, rfl, rfl, rfl⟩, ⟨hattempts, hbudget, fun _ => hon, hkind⟩, rfl⟩
  · exact ⟨x.sameTxn_self, h.records.safe hx, rfl⟩

/-- Reports leave the queue: the admission count does not rise. -/
theorem State.txnsSafe.dropReports {s : State} (h : s.txnsSafe) (n : Nat) :
    (s.setReports { s.reports with queue := s.reports.queue.drop n }).txnsSafe :=
  h.of_eq rfl rfl rfl (List.drop_sublist _ _).countP_le

theorem State.txnsSafe.maskOne {s : State} (h : s.txnsSafe) (src : SourceId) (m : Bool) :
    (s.maskOne src m).txnsSafe := by
  unfold State.maskOne
  dsimp only
  split
  · refine h.of_eq rfl rfl rfl ?_
    rw [State.completions, State.queueReport_reports, List.countP_append]
    exact Nat.le_refl _
  · exact h

theorem State.txnsSafe.maskAll {s : State} (h : s.txnsSafe) (l : List (SourceId × Bool)) : (s.maskAll l).txnsSafe := by
  induction l generalizing s with
  | nil => exact h
  | cons x rest ih => exact ih (h.maskOne x.1 x.2)

theorem decodeCancel_ok {b : Bytes} {id : Nat} (h : decodeCancel b = .ok id) : 1 ≤ id ∧ id ≤ 0xEFFF := by
  unfold decodeCancel at h
  split_ifs at h with _ hid
  cases h
  exact hostId_iff.mp hid

theorem Request.answer_txnsSafe (q : Request) (b : Bytes) (s : State) (h : s.txnsSafe) : (q.answer b s).1.txnsSafe := by
  cases q
  case start =>
    simp only [Request.answer, answerStart, State.refuse]
    split
    · exact h
    · split
      · exact h
      · split
        · exact h.beginRun
        · exact h
  case stop =>
    simp only [Request.answer, answerStop, State.refuse]
    split
    · exact h
    · exact h.stop
  case configureStation =>
    simp only [Request.answer, answerConfigureStation, State.refuse]
    split
    · exact h
    · split
      · exact h
      · split
        · exact h
        · exact h.setStation rfl
  case enableStation =>
    simp only [Request.answer, answerEnableStation, State.refuse]
    split
    · exact h
    · exact h.enableStation _
  case disableStation =>
    simp only [Request.answer, answerDisableStation, State.refuse]
    split
    · exact h
    · exact h.disableStation _
  case submit =>
    simp only [Request.answer, answerSubmit, State.refuse]
    split
    · exact h
    · next hv =>
      split
      · exact h
      · next hc => exact h.submit hv hc
  case cancel =>
    simp only [Request.answer, answerCancel, State.refuse]
    split
    · exact h
    · next hid =>
      split
      · exact h
      · next r hr =>
        have hmem := List.mem_of_find?_eq_some hr
        split
        · next hon => exact h.requestCancel hmem hon
        · next hoff =>
          obtain ⟨-, hmax⟩ := decodeCancel_ok hid
          have hrid := List.find?_some hr
          exact h.cancelPending hmem (by simpa using hoff) (by rw [eq_of_beq hrid]; exact hmax)
  case ackReports =>
    simp only [Request.answer, answerAckReports, State.refuse]
    split
    · exact h
    · split
      · exact h
      · exact h.dropReports _
  case maskEvents =>
    simp only [Request.answer, answerMaskEvents, State.refuse]
    split
    · exact h
    · exact h.maskAll _
  all_goals
    simp only [Request.answer, answerIdentify, answerResetDevice, answerConfigureLine, answerReadLine,
      answerConfigureRound, answerReadRound, answerDefineSegment, answerDeleteSegment, answerUpdateSegment,
      answerReadSegment, answerReadStation, answerReadQueue, answerConfigureInbound, answerTakeMessages,
      answerFetchReports, answerReadEvents, answerAckEvent, State.refuse]
    repeat' split
    all_goals exact h

/-! ### Every step -/

theorem State.deviceReset_txnsSafe (s : State) : s.deviceReset.txnsSafe := by
  have htxns : s.deviceReset.txns = [] := rfl
  have hadm : s.deviceReset.admission = 0 := rfl
  have hatt : s.deviceReset.attempt = none := rfl
  refine ⟨⟨?_, hadm ▸ Nat.zero_le _, ?_⟩, ?_⟩
  · simp [recordsSafe, htxns]
  · simp [attemptTied, htxns, hatt]
  · simp [State.waitingSafe, htxns]

theorem keeps_txnsSafe : Keeps State.txnsSafe where
  now _ _ h := h
  pending _ _ h := h
  hold _ _ h := h
  port _ _ h := h
  reset s _ := s.deviceReset_txnsSafe
  hostError _ _ h := h.occur _ _
  request q b s h := q.answer_txnsSafe b s h
  settle _ h _ _ := h.settleExpired
  round _ missing h _ _ := h.startRound missing
  trig _ h := h.trigEdge
  segment _ h _ _ := h.sendSegment
  opening _ h _ _ := h.openGap
  gapEnd _ h := h
  roundEnd _ h _ _ := h.enterStopped
  fault _ h _ _ := h.enterHalted
  sample _ _ h _ := h
  sent _ f h _ := h.frameSent f
  contend _ h := h.contend
  guard _ h := h.guardEnded
  start _ h := h.stationStart
  expired _ _ h _ := h.responseExpired
  deliver _ bytes e _ h _ := h.deliver bytes e
  talk _ _ h _ _ := h.talkExpired
  reclaimed _ _ h _ := h.reclaimed

/-! ### The length of the list -/

/-- Records each of which belongs to one of these stations, at most one to a station, are no more than the stations. -/
theorem countP_le_length_of_stations (l : List Record) (p : Record → Bool) (stations : List StationId)
    (hname : ∀ r ∈ l, p r = true → ∃ i ∈ stations, r.names i = true)
    (hone : ∀ i : StationId, l.countP (fun r => p r && r.names i) ≤ 1) : l.countP p ≤ stations.length := by
  induction stations generalizing p with
  | nil =>
    have hnone : l.countP p = 0 := List.countP_eq_zero.mpr fun r hr hp => by
      obtain ⟨i, hi, -⟩ := hname r hr hp
      cases hi
    exact hnone.le
  | cons i rest ih =>
    have hsplit := List.countP_eq_countP_filter_add l p (Record.names i)
    rw [List.countP_filter, List.countP_filter] at hsplit
    have hrest : l.countP (fun r => p r && !r.names i) ≤ rest.length := by
      refine ih _ (fun r hr hp => ?_) fun j => (List.countP_mono_left fun r _ hp => ?_).trans (hone j)
      · simp only [Bool.and_eq_true, Bool.not_eq_true'] at hp
        obtain ⟨j, hj, hnames⟩ := hname r hr hp.1
        rcases List.mem_cons.mp hj with rfl | hj
        · rw [hp.2] at hnames; cases hnames
        · exact ⟨j, hj, hnames⟩
      · simp only [Bool.and_eq_true] at hp ⊢
        exact ⟨hp.1.1, hp.2⟩
    have hi := hone i
    rw [List.length_cons]
    omega

/-- At most 40 host records and one internal record a station (R55). -/
theorem recordsSafe.length_le {l : List Record} (h : recordsSafe l) :
    l.length ≤ l.countP (fun r => r.isHost) + 8 := by
  obtain ⟨-, hsafe, hone⟩ := h
  have hint : l.countP (fun r => !r.isHost) ≤ allStations.length := by
    refine countP_le_length_of_stations l _ allStations (fun r hr hp => ?_) hone
    obtain ⟨-, -, -, hkind⟩ := hsafe r hr
    have hk := Record.isHost_eq_false.mp (by simpa using hp)
    have htarget : ∃ i, r.target = .station i := by
      rcases hk with hk | hk <;> rw [hk] at hkind <;> exact hkind.imp fun _ e => e.1
    obtain ⟨i, hi⟩ := htarget
    exact ⟨i, mem_allStations i, by simp [Record.names, hi]⟩
  have hsplit := List.length_eq_countP_add_countP (fun r : Record => r.isHost) (l := l)
  have hneg : l.countP (fun r => decide ¬ r.isHost = true) = l.countP fun r => !r.isHost := by
    simp
  rw [hsplit, hneg]
  exact Nat.add_le_add_left hint _

/-- Settles O59: both properties together are kept by every operation a step can come to, and the records are counted
host records and internal ones apart. -/
theorem stepsKeepTheTransactionList : Obligations.StepsKeepTheTransactionList := by
  unfold Obligations.StepsKeepTheTransactionList
  refine ⟨fun s t hlist hwait e => ?_, fun s h => ?_⟩
  · obtain ⟨hlist', hwait'⟩ := keeps_txnsSafe.step ⟨s.listSafe_iff.mp hlist, hwait⟩ e
    exact ⟨t.listSafe_iff.mpr hlist', hwait'⟩
  · obtain ⟨hrec, hadm, -⟩ := s.listSafe_iff.mp h
    have hlength := hrec.length_le
    rw [State.admission_eq] at hadm
    have : Config.admissionLimit = 40 := rfl
    omega

end Sys2Proof.Machine
end

section
namespace Sys2Proof.Machine

/-! ## The Inbound Queue (O60) -/

/-! ### The invariant over the queue and the attempt -/

/-- At most 16 messages and 2048 bytes, and no empty message (R131). -/
def Inbound.bounded (q : Inbound) : Prop :=
  q.messages.length ≤ Config.inboundMessages ∧ q.bytesHeld ≤ Config.inboundBytes ∧ ∀ m ∈ q.messages, 1 ≤ m.payload.length

theorem State.inboundSafe_iff (s : State) :
    s.inboundSafe ↔ s.inbound.bounded ∧ ∀ a ∈ s.attempt, a.roomKept s.inbound := by
  unfold State.inboundSafe Inbound.bounded
  simp only [and_assoc]

theorem State.inboundSafe.bounded {s : State} (h : s.inboundSafe) : s.inbound.bounded := (s.inboundSafe_iff.mp h).1

theorem State.inboundSafe.roomKept {s : State} (h : s.inboundSafe) {a : Attempt} (ha : s.attempt = some a) :
    a.roomKept s.inbound := (s.inboundSafe_iff.mp h).2 a ha

/-- An operation that leaves the queue and the attempt leaves the invariant. -/
theorem State.inboundSafe.of_eq {s t : State} (h : s.inboundSafe) (hq : t.inbound = s.inbound)
    (ha : t.attempt = s.attempt) : t.inboundSafe := by
  rw [State.inboundSafe_iff, hq, ha, ← State.inboundSafe_iff]
  exact h

/-- Without an attempt only the queue's own bounds count. -/
theorem State.inboundSafe_of_idle {s : State} (ha : s.attempt = none) (hq : s.inbound.bounded) : s.inboundSafe :=
  s.inboundSafe_iff.mpr ⟨hq, fun a h => by rw [ha] at h; cases h⟩

/-- An operation that leaves the queue and puts an attempt with its room in place. -/
theorem State.inboundSafe.of_attempt {s t : State} {a : Attempt} (h : s.inboundSafe) (hq : t.inbound = s.inbound)
    (ha : t.attempt = some a) (hroom : a.roomKept s.inbound) : t.inboundSafe := by
  refine t.inboundSafe_iff.mpr ⟨hq ▸ h.bounded, fun b hb => ?_⟩
  rw [ha] at hb
  cases hb
  exact hq ▸ hroom

/-! ### Messages leave and arrive -/

/-- Taking the oldest messages makes room. -/
theorem Inbound.bytesHeld_drop_le (q : Inbound) (k : Nat) :
    Inbound.bytesHeld { q with messages := q.messages.drop k } ≤ q.bytesHeld :=
  ((List.drop_sublist k q.messages).map _).sum_le_sum fun _ _ => Nat.zero_le _

theorem Inbound.bounded.drop {q : Inbound} (h : q.bounded) (k : Nat) :
    Inbound.bounded { q with messages := q.messages.drop k } := by
  obtain ⟨hlen, hbytes, hmsgs⟩ := h
  exact ⟨(List.drop_sublist k _).length_le.trans hlen, (q.bytesHeld_drop_le k).trans hbytes,
    fun m hm => hmsgs m (List.mem_of_mem_drop hm)⟩

theorem Inbound.room_iff {q : Inbound} {m : Nat} :
    q.room m = true ↔ q.messages.length < Config.inboundMessages ∧ m ≤ Config.inboundBytes - q.bytesHeld :=
  decide_eq_true_iff

theorem Inbound.room_drop {q : Inbound} {m : Nat} (h : q.room m = true) (k : Nat) :
    Inbound.room { q with messages := q.messages.drop k } m = true := by
  obtain ⟨hlen, hbytes⟩ := Inbound.room_iff.mp h
  exact Inbound.room_iff.mpr ⟨(List.drop_sublist k _).length_le.trans_lt hlen,
    hbytes.trans (Nat.sub_le_sub_left (q.bytesHeld_drop_le k) _)⟩

/-- TAKE MESSAGES keeps the room of the POLL on the line. -/
theorem State.inboundSafe.take {s : State} (h : s.inboundSafe) (k : Nat) :
    (s.setInbound { s.inbound with messages := s.inbound.messages.drop k }).inboundSafe := by
  refine (State.inboundSafe_iff _).mpr ⟨h.bounded.drop k, fun a ha hpoll => ?_⟩
  obtain ⟨hroom, hfirst⟩ := h.roomKept ha hpoll
  exact ⟨Inbound.room_drop hroom k, hfirst⟩

/-- A message no longer than the room found for it is kept within the bounds (R132, R133). -/
theorem Inbound.bounded.append {q : Inbound} (h : q.bounded) {n : Nat} (hroom : q.room n = true) {m : Message}
    (hmin : 1 ≤ m.payload.length) (hmax : m.payload.length ≤ n) :
    Inbound.bounded { q with messages := q.messages ++ [m] } := by
  obtain ⟨-, hbytes, hmsgs⟩ := h
  obtain ⟨hlen, hfree⟩ := Inbound.room_iff.mp hroom
  refine ⟨?_, ?_, fun x hx => ?_⟩
  · rw [List.length_append]
    exact hlen
  · have hsum : Inbound.bytesHeld { q with messages := q.messages ++ [m] } = q.bytesHeld + m.payload.length := by
      simp [Inbound.bytesHeld]
    omega
  · rcases List.mem_append.mp hx with hx | hx
    · exact hmsgs x hx
    · rw [List.mem_singleton.mp hx]; exact hmin

theorem State.keepMessage_inbound (s : State) (m : Message) :
    (s.keepMessage m).inbound = { s.inbound with messages := s.inbound.messages ++ [m] } := by
  unfold State.keepMessage
  dsimp only
  split
  · rw [State.occur_inbound]; rfl
  · rfl

/-- An arrival is kept or discarded. -/
theorem State.arrive_inbound (s : State) (m : Message) :
    (s.arrive m).inbound = { s.inbound with messages := s.inbound.messages ++ [m] } ∨ (s.arrive m).inbound = s.inbound := by
  unfold State.arrive
  split
  · exact Or.inl (s.keepMessage_inbound m)
  · exact Or.inr (s.discardMessage_inbound _)

/-! ### Attempts and their room -/

/-- The outcomes with which a POLL brings a message. -/
theorem TxnOutcome.isDone_iff {o : TxnOutcome} : o.isDone = true ↔ o = .done ∨ o = .doneNoted := by
  cases o <;> simp [TxnOutcome.isDone]

/-- The attempt goes on with a first frame it had and a good outcome it had. -/
theorem Attempt.roomKept.goesOn {a b : Attempt} {q : Inbound} (h : a.roomKept q) (hk : b.kind = a.kind)
    (hm : b.msgLimit = a.msgLimit) (hf : b.first = a.first)
    (hp : ∀ o ∈ b.provisional, o.isDone = true → ∃ o' ∈ a.provisional, o'.isDone = true) : b.roomKept q := by
  unfold Attempt.roomKept at *
  rw [hk, hm, hf]
  refine fun hpoll => ⟨(h hpoll).1, fun j hj hgood => (h hpoll).2 j hj ?_⟩
  have hdone : ∃ o ∈ b.provisional, o.isDone = true := by
    rcases hgood with e | e <;> exact ⟨_, e, rfl⟩
  obtain ⟨o, ho, hod⟩ := hdone
  obtain ⟨o', ho', hod'⟩ := hp o ho hod
  rcases TxnOutcome.isDone_iff.mp hod' with rfl | rfl
  · exact Or.inl ho'
  · exact Or.inr ho'

/-- An attempt that has failed keeps its room, whatever its first frame is. -/
theorem Attempt.roomKept.fails {a b : Attempt} {q : Inbound} (h : a.roomKept q) (hk : b.kind = a.kind)
    (hm : b.msgLimit = a.msgLimit) {o : TxnOutcome} (hp : b.provisional = some o) (ho : o.isDone = false) :
    b.roomKept q := by
  unfold Attempt.roomKept at *
  rw [hk, hm, hp]
  refine fun hpoll => ⟨(h hpoll).1, fun j hj hgood => ?_⟩
  rcases hgood with e | e <;> cases e <;> cases ho

/-- The attempt of a record that is not held for room has it (R81). -/
theorem State.roomKept_newAttempt {s : State} {r : Record} (h : s.heldForRoom r = false) :
    (s.newAttempt r).roomKept s.inbound := by
  intro hpoll
  have hk : r.kind = .poll := hpoll
  have hroom : s.inbound.room (s.limitOf r.target) = true := by simpa [State.heldForRoom, hk] using h
  exact ⟨hroom, fun j hj => by cases hj⟩

theorem State.inboundSafe.walk {s : State} (h : s.inboundSafe) : s.walk.inboundSafe := by
  have hold (u : State) (r : Record) (hu : u.inboundSafe) : (u.holdPoll r).inboundSafe := hu.of_eq (by simp) (by simp)
  obtain ⟨u, hu, e | ⟨-, -, -, -, -, r, -, -, -, hroom, -, e⟩⟩ := State.walk_cases hold h
  · exact e ▸ hu
  · rw [e]
    exact hu.of_attempt (by simp) (State.startAttempt_attempt u r) (State.roomKept_newAttempt hroom)

/-! ### The first frame of a POLL -/

theorem FrameKind.ofCode_message : FrameKind.ofCode FrameKind.message.code = some .message := by decide

/-- The checks of R98 fail with outcomes that bring no message. -/
theorem judgeFrame_failed {p : HeaderPolicy} {a : Attempt} {allowed : FrameKind → Bool} {f : DecodedFrame} {o : TxnOutcome}
    (h : (judgeFrame p a allowed f).1 = some o) : o.isDone = false := by
  unfold judgeFrame at h
  split at h
  · cases h; rfl
  · dsimp only at h
    split at h
    · cases h; rfl
    · split at h
      · cases h; rfl
      · split at h
        · cases h; rfl
        · split at h <;> cases h
          rfl

/-- A frame that passes the checks of R98 agrees in its length (R99). -/
theorem lengthAgrees_of_passed {p : HeaderPolicy} {a : Attempt} {allowed : FrameKind → Bool} {f : DecodedFrame}
    {k : FrameKind} (h : (judgeFrame p a allowed f).1 = none) (hk : FrameKind.ofCode f.header.kind = some k) :
    lengthAgrees a k f = true := by
  unfold judgeFrame at h
  split at h
  · cases h
  · rw [hk] at h
    dsimp only at h
    split at h
    · cases h
    · next hsteps =>
      simp only [stepsTwoToFive, Bool.not_eq_false, Bool.and_eq_true] at hsteps
      exact hsteps.2

/-- The payload of a stored long frame is what lies between its header and its CRC (R11). -/
theorem decodeStationFrame_payload_length {crc : Bool} {bytes : Bytes} {e : FrameEnd} {l : Nat}
    (hlong : (decodeStationFrame crc bytes e).header.isLong = true) (hl : 1 ≤ l)
    (hover : (decodeStationFrame crc bytes e).overrun = false)
    (hcount : (decodeStationFrame crc bytes e).byteCount = 6 + l) :
    (decodeStationFrame crc bytes e).payload.length = l := by
  have hstored : bytes.length ≤ storedLimit := Nat.not_lt.mp (of_decide_eq_false hover)
  have hlen : bytes.length = 6 + l := by
    have hmin : min bytes.length 4095 = 6 + l := hcount
    have : storedLimit = 262 := rfl
    omega
  have htake : bytes.take storedLimit = bytes := List.take_of_length_le hstored
  have hfour : ¬ bytes.length < 4 := by omega
  have hheader : (decodeStationFrame crc bytes e).header = (classifyHeader (codeWordOf bytes)).2 := by
    simp only [decodeStationFrame, htake, if_neg hfour]
  have hpayload : (decodeStationFrame crc bytes e).payload = framePayload (classifyHeader (codeWordOf bytes)).2 bytes := by
    simp only [decodeStationFrame, htake]
  rw [hpayload, framePayload, if_pos ⟨hheader ▸ hlong, by omega⟩, List.length_take, List.length_drop]
  omega

/-- A MESSAGE that passes the checks is no longer than the attempt's limit (R99). -/
theorem message_length_of_passed {p : HeaderPolicy} {a : Attempt} {allowed : FrameKind → Bool} {crc : Bool} {bytes : Bytes}
    {e : FrameEnd} (h : (judgeFrame p a allowed (decodeStationFrame crc bytes e)).1 = none)
    (hk : (decodeStationFrame crc bytes e).header.kind = FrameKind.message.code) :
    1 ≤ (decodeStationFrame crc bytes e).payload.length
      ∧ (decodeStationFrame crc bytes e).payload.length ≤ a.msgLimit := by
  have hcode := FrameKind.ofCode_message
  rw [← hk] at hcode
  have hagrees := lengthAgrees_of_passed h hcode
  simp only [lengthAgrees, Bool.and_eq_true, Bool.not_eq_true', decide_eq_true_eq] at hagrees
  obtain ⟨hover, hmin, hmax, hcount⟩ := hagrees
  have hlong : (decodeStationFrame crc bytes e).header.isLong = true := by rw [Header.isLong, hcode]; rfl
  rw [decodeStationFrame_payload_length hlong hmin hover hcount]
  exact ⟨hmin, hmax⟩

/-- A good first frame of a POLL that is a MESSAGE fits the room kept for it (R81, R97, R99). -/
theorem Attempt.roomKept.takeFirst {a : Attempt} {q : Inbound} (h : a.roomKept q) (p : HeaderPolicy) (limit : Time)
    (crc : Bool) (bytes : Bytes) (e : FrameEnd) :
    (a.takeFirst p limit (decodeStationFrame crc bytes e)).roomKept q := by
  cases hv : judgeFrame p a a.kind.allows (decodeStationFrame crc bytes e) with
  | mk failure fl =>
    cases failure with
    | some o =>
      rw [Attempt.takeFirst_failed hv]
      exact h.fails rfl rfl rfl (judgeFrame_failed (congrArg Prod.fst hv))
    | none =>
      rw [Attempt.takeFirst_passed hv]
      refine fun hpoll => ⟨(h hpoll).1, fun j hj _ hkind => ?_⟩
      cases hj
      exact message_length_of_passed (a := a) (congrArg Prod.fst hv) hkind

/-- A trailer leaves the first frame, and makes no outcome good that was not. -/
theorem Attempt.roomKept.takeTrailer {a : Attempt} {q : Inbound} (h : a.roomKept q) (p : HeaderPolicy) (limit : Time)
    (f : DecodedFrame) : (a.takeTrailer p limit f).roomKept q := by
  unfold Attempt.takeTrailer
  dsimp only
  split
  · exact h
  · refine h.goesOn rfl rfl rfl fun o ho hdone => ?_
    dsimp only at ho
    split at ho
    · next hp => exact ⟨.done, hp, rfl⟩
    · exact ⟨o, ho, hdone⟩

theorem Attempt.roomKept.takeFrame {a : Attempt} {q : Inbound} (h : a.roomKept q) (p : HeaderPolicy) (crc : Bool)
    (bytes : Bytes) (e : FrameEnd) : (a.takeFrame p (decodeStationFrame crc bytes e)).roomKept q := by
  unfold Attempt.takeFrame
  split
  · exact h.takeFirst p _ crc bytes e
  · exact h.takeTrailer p _ _
  all_goals exact h

theorem Attempt.roomKept.cutOff {a : Attempt} {q : Inbound} (h : a.roomKept q) : a.cutOff.roomKept q := by
  unfold Attempt.cutOff
  split
  · exact h.fails rfl rfl rfl rfl
  all_goals exact h

/-! ### The end of an attempt -/

/-- The message of an attempt that ends as it stands is within the room kept for it (R104, R133). -/
theorem Attempt.messageFor_length {a : Attempt} {q : Inbound} (h : a.roomKept q) {i : StationId} {o : TxnOutcome}
    (ho : o.isDone = true → a.provisional = some o) {round : Round} {m : Message} (hm : a.messageFor i o round = some m) :
    q.room a.msgLimit = true ∧ 1 ≤ m.payload.length ∧ m.payload.length ≤ a.msgLimit := by
  unfold Attempt.messageFor at hm
  split at hm
  · cases hm
  · next j hj =>
    split at hm
    · next hc =>
      obtain ⟨hpoll, hdone, hkind⟩ := hc
      cases hm
      obtain ⟨hroom, hfirst⟩ := h hpoll
      refine ⟨hroom, hfirst j hj ?_ hkind⟩
      rw [ho hdone]
      exact (TxnOutcome.isDone_iff.mp hdone).imp (congrArg some) (congrArg some)
    · cases hm

theorem State.inboundResult_bounded {s : State} (hq : s.inbound.bounded) {a : Attempt} (ha : a.roomKept s.inbound)
    {o : TxnOutcome} (ho : o.isDone = true → a.provisional = some o) : (s.inboundResult a o).inbound.bounded := by
  unfold State.inboundResult
  split
  · exact hq
  · split
    · next m hm =>
      obtain ⟨hroom, hmin, hmax⟩ := a.messageFor_length ha ho hm
      obtain e | e := s.arrive_inbound m
      · exact e ▸ hq.append hroom hmin hmax
      · exact e ▸ hq
    · exact hq

/-- The end of an attempt with its provisional outcome, or with one that brings no message. -/
theorem State.inboundSafe.endAttempt {s : State} (h : s.inboundSafe) {a : Attempt} (ha : s.attempt = some a)
    {o : TxnOutcome} (ho : o.isDone = true → a.provisional = some o) : (s.endAttempt a o).inboundSafe := by
  unfold State.endAttempt
  refine State.inboundSafe.walk ?_
  split
  · refine State.inboundSafe_of_idle (by simp) ?_
    simp only [State.handOn, State.stationEvents_inbound, State.flushFor_inbound, State.treatRecord_inbound]
    exact State.inboundResult_bounded (by simpa using h.bounded) (by simpa using h.roomKept ha) ho
  · exact State.inboundSafe_of_idle (by simp) (by simpa using h.bounded)

/-! ### What the line and the turn do -/

theorem State.inboundSafe.setPhase {s : State} (h : s.inboundSafe) {a : Attempt} (ha : s.attempt = some a) (p : Phase) :
    (s.setPhase a p).inboundSafe := by
  have hroom := h.roomKept ha
  exact h.of_attempt (s.setPhase_inbound a p) rfl hroom

theorem State.inboundSafe.frameSent {s : State} (h : s.inboundSafe) (f : SendFrame) : (s.frameSent f).inboundSafe := by
  unfold State.frameSent
  split
  · exact h
  · next a ha =>
    split
    · exact State.inboundSafe.setPhase (s := s.setActivity _) h ha _
    · split
      · exact State.inboundSafe.endAttempt (s := s.goQuiet) h ha nofun
      · exact h

theorem State.inboundSafe.abortFrame {s : State} (h : s.inboundSafe) (f : SendFrame) : (s.abortFrame f).inboundSafe := by
  unfold State.abortFrame
  split
  · split
    · next a ha => exact h.of_attempt s.goReclaim_inbound rfl ((h.roomKept ha).fails rfl rfl rfl rfl)
    · exact h
  · exact h

theorem State.inboundSafe.contend {s : State} (h : s.inboundSafe) : s.contend.inboundSafe := by
  unfold State.contend
  split
  · split
    · exact h
    · split
      · exact State.inboundSafe.abortFrame (h.of_eq (by simp) (by simp)) _
      · exact h.of_eq (by simp) (by simp)
  all_goals exact h

theorem State.inboundSafe.guardEnded {s : State} (h : s.inboundSafe) : s.guardEnded.inboundSafe := by
  unfold State.guardEnded
  split
  · next a ha =>
    split
    · exact h.setPhase ha _
    · exact h
  · exact h

theorem State.inboundSafe.stationStart {s : State} (h : s.inboundSafe) : s.stationStart.inboundSafe := by
  unfold State.stationStart
  split
  · next a _ ha => exact State.inboundSafe.setPhase (s := s.setActivity _) h ha _
  all_goals exact h

theorem State.inboundSafe.responseExpired {s : State} (h : s.inboundSafe) : s.responseExpired.inboundSafe := by
  unfold State.responseExpired
  split
  · next a ha => exact h.of_attempt s.goReclaim_inbound rfl ((h.roomKept ha).fails rfl rfl rfl rfl)
  · exact h

theorem State.inboundSafe.deliver {s : State} (h : s.inboundSafe) (bytes : Bytes) (e : FrameEnd) :
    (s.deliver bytes e).inboundSafe := by
  cases ha : s.attempt with
  | none => simpa only [State.deliver, ha] using h
  | some a =>
    rw [State.deliver_eq ha]
    exact State.inboundSafe.of_attempt h rfl rfl ((h.roomKept ha).takeFrame _ _ bytes e)

theorem State.inboundSafe.talkExpired {s : State} (h : s.inboundSafe) : s.talkExpired.inboundSafe := by
  unfold State.talkExpired
  split
  · next a ha => exact h.of_attempt s.goReclaim_inbound rfl (h.roomKept ha).cutOff
  · exact h

theorem State.inboundSafe.reclaimed {s : State} (h : s.inboundSafe) : s.reclaimed.inboundSafe := by
  unfold State.reclaimed
  split
  · next a ha =>
    refine State.inboundSafe.endAttempt (s := s.goQuiet) h ha fun hdone => ?_
    cases hp : a.provisional with
    | none => rw [hp] at hdone; cases hdone
    | some o => rfl
  · exact h

/-! ### What the rounds and the requests do -/

theorem State.inboundSafe.openGap {s : State} (h : s.inboundSafe) : s.openGap.inboundSafe := by
  unfold State.openGap
  split
  · exact State.inboundSafe.walk (s := (s.setEngine _).setSched _) h
  · exact h

/-- No request but CONFIGURE INBOUND and TAKE MESSAGES touches the Inbound Queue. -/
theorem Request.answer_inbound {q : Request} (b : Bytes) (s : State) (h1 : q ≠ .configureInbound)
    (h2 : q ≠ .takeMessages) : (q.answer b s).1.inbound = s.inbound := by
  cases q
  case configureInbound => exact absurd rfl h1
  case takeMessages => exact absurd rfl h2
  case configureStation =>
    simp only [Request.answer, answerConfigureStation, State.refuse]
    split
    · rfl
    · split
      · rfl
      · split <;> simp
  all_goals
    simp only [Request.answer, answerIdentify, answerResetDevice, answerConfigureLine, answerReadLine,
      answerConfigureRound, answerReadRound, answerDefineSegment, answerDeleteSegment, answerUpdateSegment,
      answerReadSegment, answerStart, answerStop, answerEnableStation, answerDisableStation, answerReadStation,
      answerSubmit, answerCancel, answerReadQueue, answerFetchReports, answerAckReports, answerReadEvents,
      answerAckEvent, answerMaskEvents, State.refuse]
    repeat' split
    all_goals simp [State.setTable]

/-- No request touches the attempt on the line. -/
theorem Request.answer_attempt (q : Request) (b : Bytes) (s : State) : (q.answer b s).1.attempt = s.attempt := by
  by_cases h1 : q = .start
  · subst h1
    simp only [Request.answer, answerStart, State.refuse]
    repeat' split
    all_goals simp
  · by_cases h2 : q = .stop
    · subst h2
      simp only [Request.answer, answerStop, State.refuse]
      split <;> simp
    · obtain ⟨-, -, -, ha⟩ := q.answer_sameTurn b s h1 h2
      exact ha

theorem Request.answer_inboundSafe (q : Request) (b : Bytes) (s : State) (h : s.inboundSafe) :
    (q.answer b s).1.inboundSafe := by
  by_cases h1 : q = .configureInbound
  · subst h1
    simp only [Request.answer, answerConfigureInbound, State.refuse]
    split <;> exact h
  · by_cases h2 : q = .takeMessages
    · subst h2
      simp only [Request.answer, answerTakeMessages, State.refuse]
      split
      · exact h
      · exact h.take _
    · exact h.of_eq (q.answer_inbound b s h1 h2) (q.answer_attempt b s)

/-! ### Every step -/

theorem State.deviceReset_inboundSafe (s : State) : s.deviceReset.inboundSafe :=
  State.inboundSafe_of_idle rfl ⟨Nat.zero_le _, Nat.zero_le _, fun _ h => by cases h⟩

theorem keeps_inboundSafe : Keeps State.inboundSafe where
  now _ _ h := h
  pending _ _ h := h
  hold _ _ h := h
  port _ _ h := h
  reset s _ := s.deviceReset_inboundSafe
  hostError _ _ h := h.of_eq (by simp) (by simp)
  request q b s h := q.answer_inboundSafe b s h
  settle _ h _ _ := h.of_eq (by simp) (by simp)
  round _ _ h _ _ := h.of_eq (by simp) (by simp)
  trig _ h := h.of_eq (by simp) (by simp)
  segment _ h _ _ := h.of_eq (by simp) (by simp)
  opening _ h _ _ := h.openGap
  gapEnd _ h := h
  roundEnd _ h _ _ := h.of_eq (by simp) (by simp)
  fault _ h _ _ := h.of_eq (by simp) (by simp)
  sample _ _ h _ := h
  sent _ f h _ := h.frameSent f
  contend _ h := h.contend
  guard _ h := h.guardEnded
  start _ h := h.stationStart
  expired _ _ h _ := h.responseExpired
  deliver _ bytes e _ h _ := h.deliver bytes e
  talk _ _ h _ _ := h.talkExpired
  reclaimed _ _ h _ := h.reclaimed

/-- Settles O60: the room found when a POLL starts is kept while it is on the line, and the message it brings is no longer
than the room. -/
theorem stepsKeepTheInboundQueue : Obligations.StepsKeepTheInboundQueue := by
  unfold Obligations.StepsKeepTheInboundQueue
  exact fun _ _ h e => keeps_inboundSafe.step h e

end Sys2Proof.Machine
end

section
namespace Sys2Proof.Machine

/-! ## The walk (O43) -/

/-! ### Every place of a list -/

/-- The property holds at every place of the list, of the records before it and the record there. -/
def throughout (P : List Record → Record → Prop) (l : List Record) : Prop :=
  ∀ older x rest, l = older ++ x :: rest → P older x

theorem throughout_cons {P : List Record → Record → Prop} {r : Record} {l : List Record} :
    throughout P (r :: l) ↔ P [] r ∧ throughout (fun older x => P (r :: older) x) l := by
  refine ⟨fun h => ⟨h [] r l rfl, fun older x rest e => h (r :: older) x rest (by rw [e]; rfl)⟩, fun ⟨h0, h⟩ => ?_⟩
  rintro (_ | ⟨y, older⟩) x rest e
  · cases e; exact h0
  · cases e; exact h older x rest rfl

theorem throughout.left {P : List Record → Record → Prop} {l l' : List Record} (h : throughout P (l ++ l')) :
    throughout P l := fun older x rest e => h older x (rest ++ l') (by simp [e])

/-- A property that fails somewhere in a list fails at a first place. -/
theorem throughout_or_first (P : List Record → Record → Prop) (l : List Record) :
    throughout P l ∨ ∃ older x rest, l = older ++ x :: rest ∧ ¬ P older x ∧ throughout P older := by
  induction l generalizing P with
  | nil => exact Or.inl fun older x rest e => by simp at e
  | cons r l ih =>
    by_cases h0 : P [] r
    · obtain h | ⟨older, x, rest, rfl, hx, hfirst⟩ := ih fun older x => P (r :: older) x
      · exact Or.inl (throughout_cons.mpr ⟨h0, h⟩)
      · exact Or.inr ⟨r :: older, x, rest, rfl, hx, throughout_cons.mpr ⟨h0, hfirst⟩⟩
    · exact Or.inr ⟨[], r, l, rfl, h0, fun older x rest e => by simp at e⟩

/-! ### The walk at one record -/

/-- The walk starts this record: it is eligible, has room and fits (R76, R77, R81). -/
def State.starts (s : State) (g : OpenGap) (older : List Record) (r : Record) : Bool :=
  s.eligible g.kind older r && !s.heldForRoom r && s.fits g r

/-- The walk meets a POLL here that is held for room (R81). -/
def State.holds (s : State) (g : OpenGap) (older : List Record) (r : Record) : Bool :=
  s.eligible g.kind older r && s.heldForRoom r

/-- Only a POLL is held for room (R81). -/
theorem State.kind_of_holds {s : State} {g : OpenGap} {older : List Record} {r : Record}
    (h : s.holds g older r = true) : r.kind = .poll := by
  rw [State.holds, Bool.and_eq_true, State.heldForRoom_iff] at h
  obtain ⟨-, hk, -⟩ := h
  exact hk

theorem State.walkFrom_starts {s : State} {g : OpenGap} {older : List Record} {r : Record}
    (h : s.starts g older r = true) (rest : List Record) : s.walkFrom g older (r :: rest) = s.startAttempt r := by
  simp only [State.starts, Bool.and_eq_true, Bool.not_eq_true'] at h
  obtain ⟨⟨he, hr⟩, hf⟩ := h
  simp [State.walkFrom, he, hr, hf]

theorem State.walkFrom_holds {s : State} {g : OpenGap} {older : List Record} {r : Record}
    (h : s.holds g older r = true) (rest : List Record) :
    s.walkFrom g older (r :: rest) = (s.holdPoll r).walkFrom g (older ++ [r]) rest := by
  rw [State.holds, Bool.and_eq_true] at h
  obtain ⟨he, hr⟩ := h
  rw [State.walkFrom, if_pos he, if_pos hr]

theorem State.walkFrom_passes {s : State} {g : OpenGap} {older : List Record} {r : Record}
    (hs : s.starts g older r = false) (hh : s.holds g older r = false) (rest : List Record) :
    s.walkFrom g older (r :: rest) = s.walkFrom g (older ++ [r]) rest := by
  rw [State.walkFrom]
  split
  · next he =>
    have hroom : s.heldForRoom r = false := by simpa [State.holds, he] using hh
    have hfits : s.fits g r = false := by simpa [State.starts, he, hroom] using hs
    simp [hroom, hfits]
  · rfl

/-- The first hold of a station's POLL (R82). -/
theorem State.holdPoll_first {s : State} (h : s.sched.pollsHeld = false) {r : Record} {i : StationId}
    (hi : r.target = .station i) :
    s.holdPoll r = (s.setSched { s.sched with pollsHeld := true }).occur srcPollsHeld (.station i) := by
  simp [State.holdPoll, h, hi]

/-! ### What the walk judges a record by -/

/-- Two states agree in all that the walk judges a record by. -/
structure State.sameWalk (s t : State) : Prop where
  now : t.now = s.now
  line : t.line = s.line
  engine : t.engine = s.engine
  stations : t.stations = s.stations
  inbound : t.inbound = s.inbound

theorem State.sameWalk_self (s : State) : s.sameWalk s := ⟨rfl, rfl, rfl, rfl, rfl⟩

theorem State.holdPoll_sameWalk (s : State) (r : Record) : s.sameWalk (s.holdPoll r) :=
  ⟨by simp, by simp, by simp, by simp, by simp⟩

section
variable {s t : State} (h : s.sameWalk t)
include h

theorem State.sameWalk.eligible (g : GapKind) (older : List Record) (r : Record) :
    t.eligible g older r = s.eligible g older r := by
  have hready : t.stationReady r.target = s.stationReady r.target := by
    cases r.target <;> simp only [State.stationReady, State.station, h.stations]
  rw [State.eligible, State.eligible, h.engine, hready]

theorem State.sameWalk.limitOf (x : Target) : t.limitOf x = s.limitOf x := by
  cases x <;> simp only [State.limitOf, State.station, h.stations]

theorem State.sameWalk.heldForRoom (r : Record) : t.heldForRoom r = s.heldForRoom r := by
  rw [State.heldForRoom, State.heldForRoom, h.inbound, h.limitOf]

theorem State.sameWalk.fits (g : OpenGap) (r : Record) : t.fits g r = s.fits g r := by
  have hres : t.reservation r = s.reservation r := by rw [State.reservation, State.reservation, h.line, h.limitOf]
  rw [State.fits, State.fits, State.bits, State.bits, h.now, h.line, hres]

theorem State.sameWalk.starts (g : OpenGap) (older : List Record) (r : Record) :
    t.starts g older r = s.starts g older r := by
  simp only [State.starts, h.eligible, h.heldForRoom, h.fits]

theorem State.sameWalk.holds (g : OpenGap) (older : List Record) (r : Record) :
    t.holds g older r = s.holds g older r := by
  simp only [State.holds, h.eligible, h.heldForRoom]

end

/-! ### The walk over records of which none starts -/

/-- Records of which none starts, and none is held for the first time, leave the state. -/
theorem State.walkFrom_append {s : State} {g : OpenGap} (l : List Record) {older : List Record}
    (hs : throughout (fun p x => s.starts g (older ++ p) x = false) l)
    (hh : s.sched.pollsHeld = true ∨ throughout (fun p x => s.holds g (older ++ p) x = false) l) (rest : List Record) :
    s.walkFrom g older (l ++ rest) = s.walkFrom g (older ++ l) rest := by
  induction l generalizing older with
  | nil => rw [List.nil_append, List.append_nil]
  | cons r l ih =>
    obtain ⟨hr, hs⟩ := throughout_cons.mp hs
    rw [List.append_nil] at hr
    have hlater : s.walkFrom g (older ++ [r]) (l ++ rest) = s.walkFrom g (older ++ r :: l) rest := by
      have hh' := hh.imp_right fun h => (throughout_cons.mp h).2
      simpa using ih (older := older ++ [r]) (by simpa using hs) (by simpa using hh')
    rw [List.cons_append, ← hlater]
    cases hholds : s.holds g older r with
    | false => exact State.walkFrom_passes hr hholds _
    | true =>
      have hheld : s.sched.pollsHeld = true := hh.resolve_right fun h => by
        obtain ⟨hnot, -⟩ := throughout_cons.mp h
        rw [List.append_nil, hholds] at hnot
        cases hnot
      rw [State.walkFrom_holds hholds, State.holdPoll, if_pos hheld]

/-- Records of which none starts: the first POLL held for room is the one change, and the walk goes on after them. -/
theorem State.walkFrom_of_noneStarts {s : State} {g : OpenGap} {l : List Record}
    (hs : throughout (fun p x => s.starts g p x = false) l)
    (hpoll : ∀ x ∈ l, x.kind = .poll → ∃ i, x.target = .station i) :
    ((s.sched.pollsHeld = true ∨ throughout (fun p x => s.holds g p x = false) l)
      ∧ ∀ rest, s.walkFrom g [] (l ++ rest) = s.walkFrom g l rest)
    ∨ ∃ older x after i, s.sched.pollsHeld = false ∧ l = older ++ x :: after ∧ s.holds g older x = true
      ∧ x.target = .station i ∧ throughout (fun p y => s.holds g p y = false) older
      ∧ ∀ rest, s.walkFrom g [] (l ++ rest) = (s.holdPoll x).walkFrom g l rest := by
  cases hflag : s.sched.pollsHeld with
  | true => exact Or.inl ⟨Or.inl rfl, State.walkFrom_append l (by simpa using hs) (Or.inl hflag)⟩
  | false =>
    obtain hh | ⟨older, x, after, rfl, hx, hfirst⟩ := throughout_or_first (fun p y => s.holds g p y = false) l
    · exact Or.inl ⟨Or.inr hh, State.walkFrom_append l (by simpa using hs) (Or.inr (by simpa using hh))⟩
    · rw [Bool.not_eq_false] at hx
      obtain ⟨i, hi⟩ := hpoll x (by simp) (State.kind_of_holds hx)
      refine Or.inr ⟨older, x, after, i, rfl, rfl, hx, hi, hfirst, fun rest => ?_⟩
      have hheld : (s.holdPoll x).sched.pollsHeld = true := by rw [State.holdPoll_first hflag hi]; simp
      have hafter : throughout (fun p y => (s.holdPoll x).starts g (older ++ [x] ++ p) y = false) after :=
        fun p y q e =>
          ((s.holdPoll_sameWalk x).starts g (older ++ [x] ++ p) y).trans (hs (older ++ [x] ++ p) y q (by simp [e]))
      calc s.walkFrom g [] (older ++ x :: after ++ rest)
          = s.walkFrom g [] (older ++ (x :: (after ++ rest))) := by simp
        _ = s.walkFrom g older (x :: (after ++ rest)) :=
            State.walkFrom_append older (by simpa using hs.left) (Or.inr (by simpa using hfirst)) _
        _ = (s.holdPoll x).walkFrom g (older ++ [x]) (after ++ rest) := State.walkFrom_holds hx _
        _ = (s.holdPoll x).walkFrom g (older ++ [x] ++ after) rest :=
            State.walkFrom_append after hafter (Or.inl hheld) _
        _ = (s.holdPoll x).walkFrom g (older ++ x :: after) rest := by simp

/-! ### The walk's conditions in the spec's words -/

theorem State.stationReady_iff {s : State} {x : Target} :
    s.stationReady x = true ↔ ∀ i, x = .station i → (s.station i).state = .online ∨ (s.station i).state = .suspect := by
  cases x <;> simp [State.stationReady]

theorem State.eligible_iff {s : State} {g : GapKind} {older : List Record} {r : Record} :
    s.eligible g older r = true ↔ r.onLine = false ∧ r.anchor ≠ none ∧ r.due = true
      ∧ placementMatches s.engine.table r.placement g = true
      ∧ (r.isHost = true → ∀ i, r.target = .station i → (s.station i).state = .online ∨ (s.station i).state = .suspect)
      ∧ ¬ (r.isHost = true ∧ ∃ x ∈ older, x.isHost = true ∧ x.target = r.target ∧ x.channel = r.channel) := by
  rw [← heldByOlder_iff, ← State.stationReady_iff, ← Option.isSome_iff_ne_none]
  simp only [State.eligible, Bool.and_eq_true, Bool.not_eq_true', Bool.or_eq_true, Bool.not_eq_true, and_assoc]
  cases r.isHost <;> simp

/-- A SEND needs its abort margin beyond what every record needs (R76). -/
theorem State.fits_iff {s : State} {g : OpenGap} {r : Record} :
    s.fits g r = true ↔ s.now + s.bits (s.reservation r + 20) ≤ g.ends
      ∧ (r.kind = .send → s.now + s.bits (s.reservation r + s.line.config.turnGuard + 20) ≤ g.ends) := by
  have hmargin : s.now + s.bits (s.reservation r + 20)
      ≤ s.now + s.bits (s.reservation r + s.line.config.turnGuard + 20) := LineConfig.bits_mono _ _ (by omega)
  rw [State.fits, decide_eq_true_iff]
  cases hk : r.kind
  case send =>
    exact ⟨fun h => ⟨hmargin.trans h, fun _ => h⟩, fun ⟨_, h⟩ => h rfl⟩
  all_goals exact ⟨fun h => ⟨h, nofun⟩, fun ⟨h, _⟩ => h⟩

theorem State.inFlight_eq_none_iff {s : State} : s.inFlight = none ↔ ∀ r ∈ s.txns, r.onLine = false := by
  simp [State.inFlight]

/-- A walk is made in RUNNING, in a gap with time remaining, with no attempt on the line (R77, R83). -/
theorem State.walk_of_openGap {s : State} {g : OpenGap} (hg : s.sched.openGap = some g) :
    s.walk = if s.engine.state = .running ∧ s.now < g.ends ∧ s.inFlight = none then s.walkFrom g [] s.txns else s := by
  rw [State.walk, hg]

/-- Settles O43: over the records of which none starts the walk changes the state by the first hold at most, and that hold
changes nothing by which the next record is judged. -/
theorem walkStartsTheFirstThatFits : Obligations.WalkStartsTheFirstThatFits := by
  unfold Obligations.WalkStartsTheFirstThatFits
  intro s g eligible room fits held heligible hroom hfits hheld hpoll hg
  have hstarts (older : List Record) (r : Record) :
      s.starts g older r = true ↔ eligible older r ∧ room r ∧ fits r := by
    rw [heligible, hroom, hfits, ← State.eligible_iff, ← State.fits_iff, State.starts, Bool.and_eq_true,
      Bool.and_eq_true, and_assoc, Bool.not_eq_true', ← Bool.not_eq_true, State.heldForRoom_iff, not_and, not_not]
  have hholds (older : List Record) (r : Record) : s.holds g older r = true ↔ eligible older r ∧ ¬ room r := by
    rw [heligible, hroom, ← State.eligible_iff, State.holds, Bool.and_eq_true, State.heldForRoom_iff, Classical.not_imp]
  have hroomOf {l : List Record} (h : throughout (fun p x => s.holds g p x = false) l) :
      ∀ older x after, l = older ++ x :: after → eligible older x → room x := fun older x after e he => by
    by_contra hr
    have hheld := (hholds older x).mpr ⟨he, hr⟩
    exact Bool.false_ne_true ((h older x after e).symm.trans hheld)
  have hgoesOn {before rest : List Record} (hl : s.txns = before ++ rest)
      (hnone : ∀ older x rest, before = older ++ x :: rest → ¬ (eligible older x ∧ room x ∧ fits x)) :
      s.sameWalk (held before) ∧ s.walkFrom g [] s.txns = (held before).walkFrom g before rest := by
    have hs : throughout (fun p x => s.starts g p x = false) before := fun older x rest e =>
      Bool.eq_false_iff.mpr fun h => hnone older x rest e ((hstarts older x).mp h)
    obtain ⟨hsame, hfirst⟩ := hheld before
    rw [hl]
    obtain ⟨hc, hwalk⟩ | ⟨older, x, after, i, hflag, hbefore, hx, hi, holder, hwalk⟩ :=
      State.walkFrom_of_noneStarts hs fun x hx => hpoll x (by rw [hl]; exact List.mem_append_left _ hx)
    · have hu : held before = s := hsame (hc.imp_right hroomOf)
      rw [hu]
      exact ⟨s.sameWalk_self, hwalk rest⟩
    · obtain ⟨he, hr⟩ := (hholds older x).mp hx
      have hu : held before = s.holdPoll x := by
        rw [State.holdPoll_first hflag hi]
        exact hfirst older x after i hflag hbefore he hr hi (hroomOf holder)
      rw [hu]
      exact ⟨s.holdPoll_sameWalk x, hwalk rest⟩
  refine ⟨fun hidle => ?_, fun hrun hopen hoff => ?_⟩
  · rw [State.walk_of_openGap hg, if_neg]
    rintro ⟨hrun, hopen, hflight⟩
    obtain h | h | ⟨r, hr, hon⟩ := hidle
    · exact h hrun
    · exact Nat.not_le.mpr hopen h
    · rw [State.inFlight_eq_none hflight r hr] at hon
      cases hon
  · rw [State.walk_of_openGap hg, if_pos ⟨hrun, hopen, State.inFlight_eq_none_iff.mpr hoff⟩]
    refine ⟨fun before r after hl he hr hf hnone => ?_, fun hnone => ?_⟩
    · obtain ⟨hsame, hwalk⟩ := hgoesOn hl hnone
      rw [hwalk, State.walkFrom_starts (by rw [hsame.starts]; exact (hstarts before r).mpr ⟨he, hr, hf⟩)]
    · obtain ⟨-, hwalk⟩ := hgoesOn (List.append_nil _).symm hnone
      rw [hwalk, State.walkFrom]

end Sys2Proof.Machine
end

section
namespace Sys2Proof.Machine

/-! ## The start of an attempt (O44) -/

/-- Every transaction frame but a SEND's closes with TURN (R5, R7). -/
theorem TxnKind.frameKind_closesWithTurn (k : TxnKind) : k.frameKind.closesWithTurn = decide (k ≠ .send) := by
  cases k <;> rfl

/-- The frame's duration without its leading idle, by kind (R3, R13). -/
theorem TxnKind.frameBits_eq (k : TxnKind) (l : Nat) :
    k.frameBits l = match k with
      | .write | .send => 80 + 10 * l
      | .read | .poll | .probe => 60 := by
  cases k <;> rfl

/-- The response timeout in bit times, by kind (R23, R94). -/
theorem timeoutBits_eq (ln : LineConfig) (k : TxnKind) :
    timeoutBits ln k = (match k with
      | .write => ln.writeTimeout | .read => ln.readTimeout | .poll => ln.pollTimeout | .probe => ln.probeTimeout
      | .send => 0) * ln.rate := by
  cases k
  case send => exact (Nat.zero_mul _).symm
  all_goals rfl

/-- The sent seq by kind and target (R92, R93). -/
theorem State.sentSeqOf_eq (s : State) (r : Record) :
    s.sentSeqOf r = match r.kind, r.target with
      | .write, .station i => some (s.station i).seqNext
      | .read, .station i => some (s.station i).seqNext
      | .poll, .station i => some (s.station i).seqNext
      | .write, .broadcast => some false
      | .read, .broadcast => some false
      | .poll, .broadcast => some false
      | .send, _ => none
      | .probe, _ => none := by
  unfold State.sentSeqOf
  cases r.kind <;> cases r.target <;> rfl

/-- A PROBE sends JOIN, every other kind the frame of its name (R5). -/
theorem TxnKind.frameKind_eq (k : TxnKind) :
    k.frameKind = match k with
      | .write => .write | .read => .read | .send => .send | .poll => .poll | .probe => .join := by
  cases k <;> rfl

/-- Settles O44: the attempt and its frame, field by field as R7, R92 and R93 give them for each kind. -/
theorem attemptStart : Obligations.AttemptStart := by
  unfold Obligations.AttemptStart
  intro s r m seq kind hm hseq hkind
  rw [State.startAttempt, State.newAttempt, State.txnFrame, Record.header, timeoutBits_eq, r.kind.frameBits_eq,
    r.kind.frameKind_closesWithTurn, s.sentSeqOf_eq, r.kind.frameKind_eq]
  subst hm hseq hkind
  rfl

end Sys2Proof.Machine
end

section
namespace Sys2Proof.Machine

/-! ## The seven checks of a received frame (O49) -/

/-! ### Steps 1 and 2: the header and its kind -/

/-- A kind's code names it (R181). -/
@[simp] theorem FrameKind.ofCode_code (k : FrameKind) : FrameKind.ofCode k.code = some k := by cases k <;> decide

/-- The codes that name no kind are invalid (R5). -/
theorem FrameKind.ofCode_eq_none {c : BitVec 5} (h : ∀ k : FrameKind, k.code ≠ c) : FrameKind.ofCode c = none :=
  List.find?_eq_none.mpr fun k _ => by simpa using h k

theorem judgeFrame_refusedHeader {p : HeaderPolicy} {f : DecodedFrame} (a : Attempt) (allowed : FrameKind → Bool)
    (hclass : f.headerClass = .uncorrectable) (hp : p = .strict) :
    judgeFrame p a allowed f = (some .replyCorrupt, a.flags) := if_pos ⟨hclass, hp⟩

/-- Past step 1 an invalid kind fails step 2. -/
theorem judgeFrame_invalidKind {p : HeaderPolicy} {f : DecodedFrame} (a : Attempt) (allowed : FrameKind → Bool)
    (hheader : ¬ (f.headerClass = .uncorrectable ∧ p = .strict)) (hk : ∀ k : FrameKind, k.code ≠ f.header.kind) :
    judgeFrame p a allowed f = (some .replyCorrupt, a.flags.withHeader p f.headerClass) := by
  rw [judgeFrame, if_neg hheader, FrameKind.ofCode_eq_none hk]

/-- Past step 1 a frame of a valid kind is judged by steps 2 to 7. -/
theorem judgeFrame_validKind {p : HeaderPolicy} {f : DecodedFrame} {k : FrameKind} {fl fl' : TxnFlags} {a : Attempt}
    (allowed : FrameKind → Bool) (hheader : ¬ (f.headerClass = .uncorrectable ∧ p = .strict))
    (hk : k.code = f.header.kind) (hfl : fl = a.flags.withHeader p f.headerClass)
    (hfl' : fl' = if k.isLong = true then fl.withCrc f.crc else fl) :
    judgeFrame p a allowed f =
      if stepsTwoToFive a allowed k f = false then (some .replyCorrupt, fl)
      else if k.isLong = true ∧ f.crc = .mismatch then (some .replyCrc, fl)
      else if closingAgrees k f = false then (some .replyCorrupt, fl')
      else (none, fl') := by
  rw [judgeFrame, if_neg hheader, ← hk, FrameKind.ofCode_code, hfl', hfl]

/-! ### Steps 3 to 5: station, channel and length -/

/-- ACK and DATA alone are judged by their channel. -/
theorem channelAgrees_iff {a : Attempt} {k : FrameKind} {h : Header} :
    channelAgrees a k h = true ↔ (k = .ack ∨ k = .data → h.channel = BitVec.ofNat 2 a.channel.val) := by
  cases k <;> simp [channelAgrees]

/-- The length field and the byte count that a frame of this kind may have (R99). -/
def lengthRule (a : Attempt) (k : FrameKind) (f : DecodedFrame) : Prop :=
  match k with
  | .ack | .nothing => f.header.length = 0 ∧ f.byteCount = 4
  | .errorReport => f.byteCount = 4
  | .data => 1 ≤ f.header.length.toNat ∧ f.header.length.toNat ≤ a.length ∧ f.byteCount = 6 + f.header.length.toNat
  | .message =>
    1 ≤ f.header.length.toNat ∧ f.header.length.toNat ≤ a.msgLimit ∧ f.byteCount = 6 + f.header.length.toNat
  | .ident => f.header.length = 8 ∧ f.byteCount = 14
  | .sync | .segment | .write | .read | .send | .poll | .join => False

/-- Step 5 is the rule of the kind, with overrun no. -/
theorem lengthAgrees_iff {a : Attempt} {k : FrameKind} {f : DecodedFrame} :
    lengthAgrees a k f = true ↔ f.overrun = false ∧ lengthRule a k f := by
  cases k <;> simp [lengthAgrees, lengthRule, ← BitVec.toNat_inj]

theorem stepsTwoToFive_iff {a : Attempt} {allowed : FrameKind → Bool} {k : FrameKind} {f : DecodedFrame} :
    stepsTwoToFive a allowed k f = true ↔ allowed k = true ∧ f.header.station = BitVec.ofNat 4 a.target.code
      ∧ (k = .ack ∨ k = .data → f.header.channel = BitVec.ofNat 2 a.channel.val) ∧ f.overrun = false
      ∧ lengthRule a k f := by
  rw [← channelAgrees_iff, ← lengthAgrees_iff]
  simp only [stepsTwoToFive, Bool.and_eq_true, beq_iff_eq, and_assoc]

/-! ### Steps 6 and 7: the CRC and the closing -/

theorem TxnFlags.withCrc_eq (fl : TxnFlags) (c : CrcResult) :
    fl.withCrc c = if c = .unchecked then { fl with crcUnchecked := true } else fl := by
  cases c <;> rfl

/-- A frame without a mark returns the line and closes with TURN; one with a mark does neither, and is no ERROR_REPORT. -/
theorem closingAgrees_iff {k : FrameKind} {f : DecodedFrame} :
    closingAgrees k f = true ↔ (f.header.mark = false ∧ f.header.turn = true ∧ f.closing = .turn)
      ∨ (k ≠ .errorReport ∧ f.header.mark = true ∧ f.header.turn = false ∧ f.closing = .ended) := by
  cases hmark : f.header.mark <;> simp [closingAgrees, hmark, and_assoc]

/-- Settles O49: step 1 by the header's class, step 2 by its kind, and steps 3 to 7 each by what it compares. -/
theorem frameIsJudgedByTheSevenChecks : Obligations.FrameIsJudgedByTheSevenChecks := by
  unfold Obligations.FrameIsJudgedByTheSevenChecks
  intro p a allowed f fl fl' agrees closes hfl
  have hflags : fl = a.flags.withHeader p f.headerClass := by
    rw [hfl]
    cases f.headerClass <;> cases p <;> rfl
  refine ⟨judgeFrame_refusedHeader a allowed, fun hgood => ?_⟩
  have hheader : ¬ (f.headerClass = .uncorrectable ∧ p = .strict) := by
    rintro ⟨hclass, rfl⟩
    exact hgood.elim (absurd hclass) nofun
  refine ⟨fun hk => ?_, fun k hk hfl' hagrees hcloses => ?_⟩
  · rw [judgeFrame_invalidKind a allowed hheader hk, hflags]
  · have hsteps : agrees = stepsTwoToFive a allowed k f := Bool.eq_iff_iff.mpr (hagrees.trans stepsTwoToFive_iff.symm)
    have hclosing : closes = closingAgrees k f := Bool.eq_iff_iff.mpr (hcloses.trans closingAgrees_iff.symm)
    have hcrc : fl' = if k.isLong = true then fl.withCrc f.crc else fl := by
      rw [hfl', TxnFlags.withCrc_eq, ite_and]
    rw [judgeFrame_validKind allowed hheader hk hflags hcrc, ← hsteps, ← hclosing]

end Sys2Proof.Machine
end

section
namespace Sys2Proof.Machine

/-! ## The end of an attempt (O51) -/

/-! ### RECLAIM_END -/

/-- RECLAIM_END at the end of RECLAIM. -/
theorem exec_reclaimEnd {s : State} {e : Time} (hheld : s.held = false) (hact : s.line.activity = .reclaim e)
    (hc : s.comes e) : exec .reclaimEnd s = .next (s.upTo e).reclaimed := by
  have hdue : s.dueAt .reclaimEnd = some e := by simp only [State.dueAt, hact]
  show Host.Outcome.next _ = _
  rw [State.whenFree_of_free hheld, hdue, State.atMoment_comes hc]

theorem State.reclaimed_idle {s : State} (ha : s.attempt = none) : s.reclaimed = s.goQuiet := by
  rw [State.reclaimed, ha]

theorem State.reclaimed_attempt {s : State} {a : Attempt} {o : TxnOutcome} (ha : s.attempt = some a)
    (ho : a.provisional = some o) : s.reclaimed = s.goQuiet.endAttempt a o := by
  rw [State.reclaimed, ha]
  dsimp only
  rw [ho, Option.getD_some]

/-! ### What an attempt hands on -/

theorem Attempt.identityFor_eq (a : Attempt) (o : TxnOutcome) :
    a.identityFor o
      = if a.kind = .probe ∧ (o = .done ∨ o = .doneNoted) then decodeIdentity a.firstPayload else none := by
  simp only [Attempt.identityFor, TxnOutcome.isDone_iff]

theorem Attempt.dataFor_eq (a : Attempt) (o : TxnOutcome) :
    a.dataFor o = if a.kind = .read ∧ (o = .done ∨ o = .doneNoted) then a.firstPayload else [] := by
  simp only [Attempt.dataFor, TxnOutcome.isDone_iff]

/-- A POLL that ended DONE or DONE_NOTED brought this MESSAGE as its first frame. -/
def Attempt.brings (a : Attempt) (o : TxnOutcome) (j : Judged) : Prop :=
  a.kind = .poll ∧ (o = .done ∨ o = .doneNoted) ∧ a.first = some j ∧ j.frame.header.kind = 0x14

/-- The message record made of a MESSAGE frame (R133). -/
def Judged.message (j : Judged) (i : StationId) (c : Channel) (round : Round) : Message :=
  { station := i, channel := c, payload := j.frame.payload, arrival := round
    headerCorrected := decide (j.frame.headerClass = .corrected)
    headerSuspect := decide (j.frame.headerClass = .uncorrectable) }

theorem Attempt.messageFor_brings {a : Attempt} {o : TxnOutcome} {j : Judged} (h : a.brings o j) {c : Channel}
    (hc : c.val = j.frame.header.channel.toNat) (i : StationId) (round : Round) :
    a.messageFor i o round = some (j.message i c round) := by
  obtain ⟨hpoll, hdone, hfirst, hkind⟩ := h
  have hchannel : j.frame.header.channel.toFin = c := Fin.ext hc.symm
  simp only [Attempt.messageFor, hfirst]
  rw [if_pos ⟨hpoll, TxnOutcome.isDone_iff.mpr hdone, hkind⟩, hchannel]
  rfl

theorem Attempt.messageFor_none {a : Attempt} {o : TxnOutcome} (h : ∀ j, ¬ a.brings o j) (i : StationId)
    (round : Round) : a.messageFor i o round = none := by
  unfold Attempt.messageFor
  split
  · rfl
  · next j hj => exact if_neg fun ⟨hpoll, hdone, hkind⟩ => h j ⟨hpoll, TxnOutcome.isDone_iff.mp hdone, hj, hkind⟩

/-! ### The Inbound Queue's step -/

/-- A good POLL's MESSAGE arrives in the Inbound Queue. -/
theorem State.inboundResult_brings {s : State} {a : Attempt} {i : StationId} {o : TxnOutcome} {j : Judged} {c : Channel}
    (ha : a.target = .station i) (hj : a.brings o j) (hc : c.val = j.frame.header.channel.toNat) :
    s.inboundResult a o = s.arrive (j.message i c s.engine.counter) := by
  simp only [State.inboundResult, ha, Attempt.messageFor_brings hj hc]

theorem State.inboundResult_without {s : State} {a : Attempt} {i : StationId} {o : TxnOutcome}
    (ha : a.target = .station i) (h : ∀ j, ¬ a.brings o j) : s.inboundResult a o = s := by
  simp only [State.inboundResult, ha, Attempt.messageFor_none h]

/-- An arrival is kept where the station's mask admits its channel, and otherwise counted as discarded (R130, R133). -/
theorem State.arrive_eq (s : State) (m : Message) :
    s.arrive m =
      if (s.station m.station).rxMask.getLsbD m.channel.val = true then
        if s.inbound.messages.length + 1 = s.inbound.threshold then
          (s.setInbound { s.inbound with messages := s.inbound.messages ++ [m] }).occur srcInboundThreshold
            (.count (s.inbound.messages.length + 1))
        else s.setInbound { s.inbound with messages := s.inbound.messages ++ [m] }
      else s.setStation m.station { s.station m.station with
        messagesDiscarded := min 65535 ((s.station m.station).messagesDiscarded + 1) } := by
  have hkeep : s.keepMessage m =
      if s.inbound.messages.length + 1 = s.inbound.threshold then
        (s.setInbound { s.inbound with messages := s.inbound.messages ++ [m] }).occur srcInboundThreshold
          (.count (s.inbound.messages.length + 1))
      else s.setInbound { s.inbound with messages := s.inbound.messages ++ [m] } := by
    simp only [State.keepMessage, State.setInbound_inbound, List.length_append, List.length_singleton]
  rw [State.arrive, hkeep]
  rfl

/-! ### The Transaction List's step -/

theorem TxnOutcome.retryable_eq (o : TxnOutcome) :
    o.retryable
      = (o == .noResponse || o == .replyCorrupt || o == .replyCrc || o == .replyTruncated || o == .contention) := by
  cases o <;> rfl

/-- The conditions of a retry in the spec's words (R60). -/
theorem State.mayRetry_iff {s : State} {r : Record} :
    s.mayRetry r = true ↔ r.attempts ≤ r.retryBudget ∧ r.cancelRequested = false
      ∧ (∀ i, r.target = .station i → (s.station i).state = .online ∨ (s.station i).state = .suspect)
      ∧ (∀ e, r.expiryRound = some e → roundAtOrBefore s.engine.counter e = true) := by
  rw [← State.stationReady_iff]
  unfold State.mayRetry
  cases r.expiryRound <;> simp [and_assoc]

/-- The record in flight is removed, tried again or completed, with the conditions of the retry and the completion's fields
written out (R59, R60, R68). -/
theorem State.treatRecord_eq {s : State} {r : Record} {a : Attempt} {o : TxnOutcome} {again : Bool}
    (hr : s.inFlight = some r)
    (hagain : again = true ↔ o.retryable = true ∧ r.attempts + 1 ≤ r.retryBudget ∧ r.cancelRequested = false
      ∧ (∀ i, r.target = .station i → (s.station i).state = .online ∨ (s.station i).state = .suspect)
      ∧ (∀ e, r.expiryRound = some e → roundAtOrBefore s.engine.counter e = true)) :
    s.treatRecord (a.result o) =
      if r.isHost = false then s.setTxns (s.txns.filter fun x => x.id != r.id)
      else if again = true then s.setTxns (s.txns.map fun x => if x.id = r.id then r.attempted (a.result o) else x)
      else (s.setTxns (s.txns.filter fun x => x.id != r.id)).queueReport (.completion
        { id := r.id, kind := r.kind, target := r.target, channel := r.channel,
          outcome := if o.retryable = true ∧ r.cancelRequested = true then .cancelled else o,
          attempts := r.attempts + 1, round := s.engine.counter, flags := a.flags,
          word := if o = .refused ∨ o = .doneNoted then a.word else none, data := a.dataFor o }) := by
  have hretry : o.retryable = true ∧ s.mayRetry (r.attempted (a.result o)) = true ↔ again = true := by
    rw [hagain, State.mayRetry_iff]
    rfl
  rw [State.treatRecord_of_inFlight hr]
  exact if_congr Iff.rfl rfl (if_congr hretry rfl rfl)

/-! ### The station's flush and its occurrences -/

theorem Record.names_eq (i : StationId) : Record.names i = fun x => decide (x.target = .station i) := rfl

/-- What a removal of internal records leaves: the host records, the one on the line, and those of another cause. -/
theorem State.removeInternal_eq (s : State) (p : Record → Bool) :
    s.removeInternal p = s.setTxns (s.txns.filter fun x => x.isHost || x.onLine || !p x) := by
  have hkept : (fun r : Record => !r.pendingInternal p) = fun x => x.isHost || x.onLine || !p x := by
    funext x
    simp [Record.pendingInternal, Bool.not_and]
  rw [State.removeInternal, hkept]

theorem State.flushFor_lost (s : State) (i : StationId) :
    s.flushFor i .lost = (s.completeAll (fun x => decide (x.target = .station i)) .stationLost).setTxns
      ((s.completeAll (fun x => decide (x.target = .station i)) .stationLost).txns.filter
        fun x => x.isHost || x.onLine || decide (x.target ≠ .station i)) := by
  rw [State.flushFor, State.removeInternal_eq, Record.names_eq]
  simp only [decide_not]

theorem State.flushFor_resynced (s : State) (i : StationId) :
    s.flushFor i .resynced = s.setTxns (s.txns.filter
      fun x => x.onLine || decide (x.kind ≠ .poll) || decide (x.target ≠ .station i)) := by
  have hkept : (fun x : Record => x.isHost || x.onLine || !(x.names i && x.kind == .poll))
      = fun x => x.onLine || decide (x.kind ≠ .poll) || decide (x.target ≠ .station i) := by
    funext x
    by_cases hk : x.kind = .poll
    · have hint : x.isHost = false := Record.isHost_eq_false.mpr (Or.inl hk)
      simp [hint, hk, Record.names_eq]
    · simp [hk]
  rw [State.flushFor, State.removeInternal_eq, hkept]

/-! ### The end of an attempt at a station and to broadcast -/

theorem State.endAttempt_station {a : Attempt} {i : StationId} (ha : a.target = .station i) (s : State)
    (o : TxnOutcome) : s.endAttempt a o = ((s.setAttempt none).handOn i a o).walk := by
  rw [State.endAttempt, ha]

theorem State.endAttempt_broadcast {a : Attempt} (ha : a.target = .broadcast) (s : State) (o : TxnOutcome) :
    s.endAttempt a o = ((s.setAttempt none).treatRecord (a.result o)).walk := by
  rw [State.endAttempt, ha]

/-- Settles O51: RECLAIM_END's effect, and the steps of an attempt's end one by one. -/
theorem endOfAnAttempt : Obligations.EndOfAnAttempt := by
  unfold Obligations.EndOfAnAttempt
  refine ⟨fun s e hheld hact hc => ⟨fun ha => ?_, fun a o ha ho => ?_⟩, ?_, ?_⟩
  · rw [exec_reclaimEnd hheld hact hc, State.reclaimed_idle (s := s.upTo e) ha]
    rfl
  · rw [exec_reclaimEnd hheld hact hc, State.reclaimed_attempt (s := s.upTo e) ha ho]
    rfl
  · intro s u1 u2 u3 u4 u5 a o i r r' st ch ident retryable again payload data ha hr hpayload hident hresult hu1
      hmessage hnone hdata hr' hretry hagain hu3 hu4 hu5
    have hpayload : payload = a.firstPayload := hpayload
    have hident : ident = a.identityFor o := by rw [hident, hpayload, Attempt.identityFor_eq]
    have hdata : data = a.dataFor o := by rw [hdata, hpayload, Attempt.dataFor_eq]
    have hr' : r' = r.attempted (a.result o) := by rw [hr', hdata]; rfl
    have hretry : retryable = o.retryable := by rw [hretry, TxnOutcome.retryable_eq]
    have hstation : (s.setAttempt none).stationResult i a o = (u1, ch) := by
      have happly : ((s.setAttempt none).station i).applyResult a.kind o (a.identityFor o) a.word s.engine.counter
          = (st, ch) := hident ▸ hresult.symm
      simp only [State.stationResult, State.setAttempt_engine, happly, hu1]
    have hinbound : u2 = u1.inboundResult a o := by
      have hst : u1.station i = st := by rw [hu1, State.station_setStation, if_pos rfl]
      have hcounter : u1.engine.counter = s.engine.counter := by rw [hu1]; rfl
      by_cases hbrings : ∃ j, a.brings o j
      · obtain ⟨j, hj⟩ := hbrings
        have ⟨hpoll, hdone, hfirst, hkind⟩ := hj
        rw [State.inboundResult_brings ha hj (c := j.frame.header.channel.toFin) rfl, State.arrive_eq, hcounter,
          hmessage j hpoll hdone hfirst hkind j.frame.header.channel.toFin rfl, ← hst]
        rfl
      · rw [State.inboundResult_without ha fun j hj => hbrings ⟨j, hj⟩]
        exact hnone fun ⟨hpoll, hdone, j, hfirst, hkind⟩ => hbrings ⟨j, hpoll, hdone, hfirst, hkind⟩
    have htreat : u3 = u2.treatRecord (a.result o) := by
      have hflight : u2.inFlight = some r := by
        rw [State.inFlight, hinbound, State.inboundResult_txns, hu1]
        exact hr
      have hcounter : s.engine.counter = u2.engine.counter := by
        rw [hinbound, State.inboundResult_engine, hu1]
        rfl
      rw [hretry, hr', hcounter] at hagain
      rw [State.treatRecord_eq hflight hagain, hu3, hretry, hr', hdata, hcounter]
      rfl
    have hflush : u4 = u3.flushFor i ch := by
      rw [hu4]
      cases ch
      case lost => exact (u3.flushFor_lost i).symm
      case resynced => exact (u3.flushFor_resynced i).symm
      all_goals rfl
    have hevents : (match a.word with
        | some w => u5.occur (stationSource i 4) (.word w)
        | none => u5) = u4.stationEvents i ch a o := by
      rw [hu5]
      cases ch <;> rfl
    rw [State.endAttempt_station ha, State.handOn, hstation]
    dsimp only
    rw [← hinbound, ← htreat, ← hflush]
    exact congrArg State.walk hevents.symm
  · intro s u v a o r r' retryable again data ha hr hdata hr' hretry hagain hu hv
    have hdata : data = a.dataFor o := by rw [hdata, Attempt.dataFor_eq]; rfl
    have hr' : r' = r.attempted (a.result o) := by rw [hr', hdata]; rfl
    have hretry : retryable = o.retryable := by rw [hretry, TxnOutcome.retryable_eq]
    have htreat : v = u.treatRecord (a.result o) := by
      rw [hretry, hr'] at hagain
      subst hu
      rw [State.treatRecord_eq (s := s.setAttempt none) hr hagain, hv, hretry, hr', hdata]
      rfl
    rw [State.endAttempt_broadcast ha, ← hu, ← htreat]

end Sys2Proof.Machine
end

section
namespace Sys2Proof.Machine

/-! ## What an attempt's result makes of its station (O52) -/

/-! ### The outcome classes in the spec's words -/

theorem TxnOutcome.isGood_eq (o : TxnOutcome) : o.isGood = (o == .done || o == .doneNoted || o == .refused) := by
  cases o <;> rfl

theorem TxnOutcome.isDone_eq (o : TxnOutcome) : o.isDone = (o == .done || o == .doneNoted) := by
  cases o <;> rfl

theorem TxnOutcome.isCounted_eq (o : TxnOutcome) :
    o.isCounted = (o == .noResponse || o == .replyCorrupt || o == .replyCrc || o == .replyTruncated) := by
  cases o <;> rfl

/-- The sequence bit by kind: a PROBE's success clears it, a SEND leaves it, and a good reply to another kind flips it
(R105). -/
theorem Station.seqAfter_eq (st : Station) (k : TxnKind) (o : TxnOutcome) :
    st.seqAfter k o = if k = .probe then (if o = .done ∨ o = .doneNoted then false else st.seqNext)
      else if k = .send then st.seqNext else if o.isGood = true then !st.seqNext else st.seqNext := by
  cases k
  case probe => simp only [Station.seqAfter, TxnOutcome.isDone_iff, if_true]
  all_goals rfl

/-! ### The report and the statistics, apart from the state -/

/-- The record with the result's report and statistics, as they come whatever the station's state is (R107, R130). -/
def Station.booked (st : Station) (k : TxnKind) (o : TxnOutcome) (ident : Option Identity) (word : Option (BitVec 12))
    (now : Round) : Station :=
  (st.reported word now).counted k o ident

theorem Station.booked_eq (st : Station) (k : TxnKind) (o : TxnOutcome) (ident : Option Identity)
    (word : Option (BitVec 12)) (now : Round) :
    st.booked k o ident word now = { st with
      lastReport := match word with | some w => some (w, now) | none => st.lastReport
      repliesGood := if (o.isGood || o == .replyStale) && !probeFailed k o ident then min 65535 (st.repliesGood + 1)
        else st.repliesGood
      failuresTotal := if o.isCounted || probeFailed k o ident then min 65535 (st.failuresTotal + 1)
        else st.failuresTotal } := by
  cases word <;> rfl

theorem Station.failTowardsLoss_booked (st : Station) (k : TxnKind) (o : TxnOutcome) (ident : Option Identity)
    (word : Option (BitVec 12)) (now : Round) :
    (st.booked k o ident word now).failTowardsLoss now
      = ((st.failTowardsLoss now).1.booked k o ident word now, (st.failTowardsLoss now).2) := by
  simp only [Station.booked_eq, Station.failTowardsLoss]
  split <;> rfl

/-- The state after a result is judged by neither the report nor the statistics, and changes neither. -/
theorem Station.applyState_booked (st : Station) (k : TxnKind) (o : TxnOutcome) (ident : Option Identity)
    (word : Option (BitVec 12)) (now : Round) :
    (st.booked k o ident word now).applyState k o ident now
      = ((st.applyState k o ident now).1.booked k o ident word now, (st.applyState k o ident now).2) := by
  have hloss := st.failTowardsLoss_booked k o ident word now
  have hstate : (st.booked k o ident word now).state = st.state := by rw [Station.booked_eq]
  have hfailures : (st.booked k o ident word now).failures = st.failures := by rw [Station.booked_eq]
  have hsuspect : (st.booked k o ident word now).suspectAfter = st.suspectAfter := by rw [Station.booked_eq]
  unfold Station.applyState
  rw [hstate]
  cases st.state with
  | disabled =>
    cases ident <;> simp only [Station.booked_eq]
  | offline =>
    by_cases hk : k = .probe
    · cases ident <;> simp only [hk, if_true, Station.probedOffline, Station.join, Station.booked_eq]
    · simp only [if_neg hk]
  | resync =>
    by_cases hk : k = .probe
    · cases ident with
      | some i => simp only [hk, if_true, Station.probedResync, Station.join, Station.booked_eq]
      | none =>
        simp only [if_pos hk, Station.probedResync, hloss]
        split <;> rfl
    · simp only [if_neg hk]
  | online =>
    by_cases hk : k = .probe
    · simp only [if_pos hk]
    · simp only [if_neg hk, Station.answeredOnline, Station.resyncing, hfailures, hsuspect]
      split_ifs <;> simp only [Station.booked_eq]
  | suspect =>
    by_cases hk : k = .probe
    · simp only [if_pos hk]
    · simp only [if_neg hk, Station.answeredSuspect, Station.resyncing, hloss]
      split_ifs <;> simp only [Station.booked_eq]

/-- A result's report and statistics may come before its change of state. -/
theorem Station.applyResult_eq (st : Station) (k : TxnKind) (o : TxnOutcome) (ident : Option Identity)
    (word : Option (BitVec 12)) (now : Round) :
    st.applyResult k o ident word now
      = (({ st with seqNext := st.seqAfter k o }).booked k o ident word now).applyState k o ident now :=
  (Station.applyState_booked _ k o ident word now).symm

/-! ### The state after a result, by the state before it -/

theorem Station.applyState_disabled {st : Station} (hs : st.state = .disabled) (k : TxnKind) (o : TxnOutcome)
    (ident : Option Identity) (now : Round) :
    st.applyState k o ident now
      = ({ st with identity := match ident with | some i => some i | none => st.identity }, .unchanged) := by
  cases st
  cases hs
  cases ident <;> rfl

theorem Station.applyState_offline {st : Station} (hs : st.state = .offline) (k : TxnKind) (o : TxnOutcome)
    (ident : Option Identity) (now : Round) :
    st.applyState k o ident now = if k = .probe then st.probedOffline ident now else (st, .unchanged) := by
  unfold Station.applyState
  rw [hs]

theorem Station.applyState_online {st : Station} {k : TxnKind} (hs : st.state = .online) (hk : k ≠ .probe)
    (o : TxnOutcome) (ident : Option Identity) (now : Round) :
    st.applyState k o ident now = st.answeredOnline o := by
  unfold Station.applyState
  rw [hs]
  exact if_neg hk

theorem Station.applyState_suspect {st : Station} {k : TxnKind} (hs : st.state = .suspect) (hk : k ≠ .probe)
    (o : TxnOutcome) (ident : Option Identity) (now : Round) :
    st.applyState k o ident now = st.answeredSuspect o now := by
  unfold Station.applyState
  rw [hs]
  exact if_neg hk

theorem Station.applyState_resync {st : Station} {k : TxnKind} (hs : st.state = .resync) (hk : k = .probe)
    (o : TxnOutcome) (ident : Option Identity) (now : Round) :
    st.applyState k o ident now = st.probedResync o ident now := by
  unfold Station.applyState
  rw [hs]
  exact if_pos hk

/-- Settles O52: the sequence bit, the report and the statistics come first in every state, and the change of state after
them, state by state. -/
theorem stationResults : Obligations.StationResults := by
  unfold Obligations.StationResults
  intro st k o ident word now good counted badProbe base hgood hcounted hbad _ hbase
  rw [← TxnOutcome.isGood_eq] at hgood
  rw [← TxnOutcome.isCounted_eq] at hcounted
  have hbad : badProbe = probeFailed k o ident := by rw [hbad, probeFailed, TxnOutcome.isDone_eq]
  have hbooked : base = { st with seqNext := st.seqAfter k o }.booked k o ident word now := by
    rw [hbase, hgood, hcounted, hbad, ← Station.seqAfter_eq]
    exact (Station.booked_eq { st with seqNext := st.seqAfter k o } k o ident word now).symm
  have hresult : st.applyResult k o ident word now = base.applyState k o ident now := by
    rw [Station.applyResult_eq, hbooked]
  have hstate : base.state = st.state := by rw [hbase]
  have hidentity : base.identity = st.identity := by rw [hbase]
  have hfailures : base.failures = st.failures := by rw [hbase]
  have hsuspect : base.suspectAfter = st.suspectAfter := by rw [hbase]
  have hlost : base.lostAfter = st.lostAfter := by rw [hbase]
  rw [hresult, hgood, hcounted, ← hstate, ← hidentity, ← hfailures, ← hsuspect, ← hlost]
  refine ⟨fun hs => ?_, fun hs hk => ?_, fun hs hk => ?_, fun hs hk => ?_, fun hs hk => ?_, fun hs hk => ?_⟩
  · exact base.applyState_disabled hs ..
  · rw [Station.applyState_offline hs, if_neg hk]
  · rw [Station.applyState_offline hs, if_pos hk]
    cases ident <;> rfl
  · rw [Station.applyState_online hs hk]
    rfl
  · rw [Station.applyState_suspect hs hk]
    rfl
  · rw [Station.applyState_resync hs hk]
    cases ident <;> rfl

end Sys2Proof.Machine
end

section
namespace Sys2Proof.Machine

/-! ## CONFIGURE STATION's body (R127) -/

/-- The ranges that the body alone is judged by. -/
def stationSettingsInRange (b : Bytes) : Prop :=
  u8 b 1 ≤ 15 ∧ 1 ≤ u16 b 2 ∧ u16 b 2 ≤ 256 ∧ 1 ≤ u8 b 4 ∧ u8 b 6 ≤ 15 ∧ u8 b 7 ≤ 31

/-- The settings that a body for this station carries, as laid out by R178. -/
def stationSettingsOf (i : StationId) (b : Bytes) : StationSettings :=
  { station := i, rxMask := BitVec.ofNat 4 (u8 b 1), msgLimit := u16 b 2, probeInterval := u8 b 4,
    pollInterval := u8 b 5, suspectAfter := u8 b 6, lostAfter := u8 b 7 }

theorem decodeConfigureStation_badLength {b : Bytes} (h : b.length ≠ 8) :
    decodeConfigureStation b = .error .badLength := if_pos h

theorem decodeConfigureStation_badStation {b : Bytes} (h : b.length = 8) (hv : 7 < u8 b 0) :
    decodeConfigureStation b = .error .badValue := by
  rw [decodeConfigureStation, if_neg (not_not.mpr h), fin?_of_le hv]

section
variable {b : Bytes} {i : StationId} (h : b.length = 8) (hi : u8 b 0 = i.val)

include h hi

theorem decodeConfigureStation_badRange (hr : ¬ stationSettingsInRange b) :
    decodeConfigureStation b = .error .badValue := by
  rw [decodeConfigureStation, if_neg (not_not.mpr h), hi, fin?_val]
  exact if_neg hr

theorem decodeConfigureStation_inRange (hr : stationSettingsInRange b) :
    decodeConfigureStation b = .ok (stationSettingsOf i b) := by
  rw [decodeConfigureStation, if_neg (not_not.mpr h), hi, fin?_val]
  exact if_pos hr

end

/-- An accepted body is in its ranges, and carries the settings of one station. -/
theorem decodeConfigureStation_ok {b : Bytes} {v : StationSettings} (h : decodeConfigureStation b = .ok v) :
    stationSettingsInRange b ∧ ∃ i, v = stationSettingsOf i b := by
  by_cases hb : b.length = 8
  · by_cases hv : 7 < u8 b 0
    · rw [decodeConfigureStation_badStation hb hv] at h; cases h
    · have hi : u8 b 0 = (⟨u8 b 0, by omega⟩ : StationId).val := rfl
      by_cases hr : stationSettingsInRange b
      · rw [decodeConfigureStation_inRange hb hi hr] at h
        cases h
        exact ⟨hr, _, rfl⟩
      · rw [decodeConfigureStation_badRange hb hi hr] at h; cases h
  · rw [decodeConfigureStation_badLength hb] at h; cases h

/-- The checks against the station's record, and the work (R127). -/
theorem answerConfigureStation_decoded {b : Bytes} {v : StationSettings} (s : State)
    (hv : decodeConfigureStation b = .ok v) :
    answerConfigureStation b s =
      if (s.station v.station).thresholdsAgree v = false then s.refuse .badValue
      else if (v.suspectAfter ≠ 0 ∨ v.lostAfter ≠ 0) ∧ (s.station v.station).state ≠ .disabled then
        s.refuse .wrongState
      else (s.setStation v.station ((s.station v.station).configured v), .ok []) := by
  rw [answerConfigureStation, hv]

/-! ## The Station Table (O57) -/

/-! ### The bounds on a record, part by part -/

/-- The settings are in the ranges of CONFIGURE STATION (R112, R127). -/
def Station.settingsSafe (st : Station) : Prop :=
  1 ≤ st.suspectAfter ∧ st.suspectAfter ≤ 15 ∧ st.suspectAfter + 1 ≤ st.lostAfter ∧ st.lostAfter ≤ 31
  ∧ 1 ≤ st.msgLimit ∧ st.msgLimit ≤ 256 ∧ 1 ≤ st.probeInterval ∧ st.probeInterval ≤ 255 ∧ st.pollInterval ≤ 255

/-- The statistics are held at 65535 (R130). -/
def Station.statisticsSafe (st : Station) : Prop :=
  st.repliesGood ≤ 65535 ∧ st.failuresTotal ≤ 65535 ∧ st.messagesDiscarded ≤ 65535

/-- A valid identity's longest message (R122). -/
def Identity.inRange (i : Identity) : Prop := 1 ≤ i.maxLength ∧ i.maxLength ≤ 256

/-- The identity is a valid one, and a station that has joined has one (R122). -/
def Station.identitySafe (st : Station) : Prop :=
  (∀ i ∈ st.identity, i.inRange) ∧ (st.joined = true → st.identity.isSome = true)

theorem Station.safe_iff {st : Station} :
    st.safe ↔ st.failuresBounded ∧ st.settingsSafe ∧ st.statisticsSafe ∧ st.identitySafe := by
  simp only [Station.safe, Station.settingsSafe, Station.statisticsSafe, Station.identitySafe, Identity.inRange,
    and_assoc]

theorem Station.joined_iff {st : Station} :
    st.joined = true ↔ st.state = .online ∨ st.state = .suspect ∨ st.state = .resync := by
  simp [Station.joined, or_assoc]

/-- A station that has not joined has no failures counted, and needs no identity. -/
theorem Station.safe_iff_of_away {st : Station} (hs : st.state = .disabled ∨ st.state = .offline) :
    st.safe ↔ st.failures = 0 ∧ st.settingsSafe ∧ st.statisticsSafe ∧ ∀ i ∈ st.identity, i.inRange := by
  have hfail : st.failuresBounded ↔ st.failures = 0 := by
    rcases hs with hs | hs <;> simp only [Station.failuresBounded, hs]
  have haway : ¬ st.joined = true := by
    rw [Station.joined_iff]
    rcases hs with hs | hs <;> simp [hs]
  have hid : st.identitySafe ↔ ∀ i ∈ st.identity, i.inRange := and_iff_left fun hj => absurd hj haway
  rw [Station.safe_iff, hfail, hid]

theorem Station.reset_safe : Station.reset.safe :=
  (Station.safe_iff_of_away (Or.inl rfl)).mpr
    ⟨rfl, by simp [Station.settingsSafe, Station.reset], by simp [Station.statisticsSafe, Station.reset], nofun⟩

theorem heldSucc_le (n : Nat) : heldSucc n ≤ 65535 := Nat.min_le_left ..

theorem one_le_keptOr {requested current : Nat} (h : 1 ≤ current) : 1 ≤ keptOr requested current := by
  unfold keptOr
  split <;> omega

theorem keptOr_le {requested current n : Nat} (h : requested ≤ n) (hc : current ≤ n) : keptOr requested current ≤ n := by
  unfold keptOr
  split
  · exact hc
  · exact h

/-! ### The station's state moves -/

section
variable {st : Station} (h : st.safe)

include h

/-- A joined station goes on joined, with its failure count in the bounds of the state it comes to. -/
theorem Station.safe.goesOn (hj : st.joined = true) {state : StationState} {n : Nat}
    (hn : { st with state := state, failures := n }.failuresBounded) :
    { st with state := state, failures := n }.safe := by
  obtain ⟨-, hset, hstat, hvalid, hid⟩ := Station.safe_iff.mp h
  exact Station.safe_iff.mpr ⟨hn, hset, hstat, hvalid, fun _ => hid hj⟩

theorem Station.safe.join {i : Identity} (hi : i.inRange) (now : Round) : (st.join i now).safe := by
  obtain ⟨-, hset, hstat, -⟩ := Station.safe_iff.mp h
  have ⟨hsuspect, _⟩ := hset
  refine Station.safe_iff.mpr ⟨hsuspect, hset, hstat, fun j hj => ?_, fun _ => rfl⟩
  cases hj
  exact hi

/-- A valid identity is kept at a DISABLED station (R124). -/
theorem Station.safe.identify (hs : st.state = .disabled) {i : Identity} (hi : i.inRange) :
    { st with identity := some i }.safe := by
  obtain ⟨hfail, hset, hstat, -⟩ := (Station.safe_iff_of_away (Or.inl hs)).mp h
  refine (Station.safe_iff_of_away (st := { st with identity := some i }) (Or.inl hs)).mpr
    ⟨hfail, hset, hstat, fun j hj => ?_⟩
  cases hj
  exact hi

theorem Station.safe.lose (now : Round) : (st.lose now).safe := by
  obtain ⟨-, hset, hstat, hvalid, -⟩ := Station.safe_iff.mp h
  exact (Station.safe_iff_of_away (Or.inr rfl)).mpr ⟨rfl, hset, hstat, hvalid⟩

theorem Station.safe.resyncing (hj : st.joined = true) : st.resyncing.safe := by
  obtain ⟨-, ⟨hsuspect, -, hlost, -⟩, -⟩ := Station.safe_iff.mp h
  exact h.goesOn hj (show 0 < st.lostAfter by omega)

/-- Short of lost_after one more failure is counted, and at lost_after the station is lost (R118, R121). -/
theorem Station.safe.failTowardsLoss (hs : st.state = .suspect ∨ st.state = .resync) (now : Round) :
    (st.failTowardsLoss now).1.safe := by
  unfold Station.failTowardsLoss
  split
  · exact h.lose now
  · obtain ⟨hfail, -⟩ := Station.safe_iff.mp h
    refine h.goesOn (Station.joined_iff.mpr (Or.inr hs)) ?_
    rcases hs with hs | hs <;> simp only [Station.failuresBounded, hs] at hfail ⊢ <;> omega

/-- At suspect_after an ONLINE station becomes SUSPECT, and below it stays ONLINE (R117, R119). -/
theorem Station.safe.answeredOnline (hs : st.state = .online) (o : TxnOutcome) : (st.answeredOnline o).1.safe := by
  obtain ⟨hfail, ⟨hsuspect, -, hlost, -⟩, -⟩ := Station.safe_iff.mp h
  have hj : st.joined = true := Station.joined_iff.mpr (Or.inl hs)
  simp only [Station.failuresBounded, hs] at hfail
  unfold Station.answeredOnline
  split_ifs
  · exact h.goesOn hj (by simp only [Station.failuresBounded, hs]; omega)
  · exact h.resyncing hj
  · exact h.goesOn hj (show st.suspectAfter ≤ st.failures + 1 ∧ st.failures + 1 < st.lostAfter by omega)
  · exact h.goesOn hj (by simp only [Station.failuresBounded, hs]; omega)
  · exact h

theorem Station.safe.answeredSuspect (hs : st.state = .suspect) (o : TxnOutcome) (now : Round) :
    (st.answeredSuspect o now).1.safe := by
  obtain ⟨-, ⟨hsuspect, -⟩, -⟩ := Station.safe_iff.mp h
  have hj : st.joined = true := Station.joined_iff.mpr (Or.inr (Or.inl hs))
  unfold Station.answeredSuspect
  split_ifs
  · exact h.goesOn hj (show 0 < st.suspectAfter from hsuspect)
  · exact h.resyncing hj
  · exact h.failTowardsLoss (Or.inl hs) now
  · exact h

section
variable {ident : Option Identity} (hi : ∀ i ∈ ident, i.inRange)

include hi

theorem Station.safe.probedOffline (now : Round) : (st.probedOffline ident now).1.safe := by
  cases ident with
  | some i => exact h.join (hi i rfl) now
  | none => exact h

theorem Station.safe.probedResync (hs : st.state = .resync) (o : TxnOutcome) (now : Round) :
    (st.probedResync o ident now).1.safe := by
  cases ident with
  | some i => exact h.join (hi i rfl) now
  | none =>
    unfold Station.probedResync
    dsimp only
    split
    · exact h
    · exact h.failTowardsLoss (Or.inr hs) now

/-- A result's change of state, state by state (R117 to R124). -/
theorem Station.safe.applyState (k : TxnKind) (o : TxnOutcome) (now : Round) : (st.applyState k o ident now).1.safe := by
  cases hs : st.state with
  | disabled =>
    rw [Station.applyState_disabled hs]
    cases ident with
    | some i => exact h.identify hs (hi i rfl)
    | none => exact h
  | offline =>
    rw [Station.applyState_offline hs]
    split
    · exact h.probedOffline hi now
    · exact h
  | resync =>
    by_cases hk : k = .probe
    · rw [Station.applyState_resync hs hk]
      exact h.probedResync hi hs o now
    · simpa only [Station.applyState, hs, if_neg hk] using h
  | online =>
    by_cases hk : k = .probe
    · simpa only [Station.applyState, hs, if_pos hk] using h
    · rw [Station.applyState_online hs hk]
      exact h.answeredOnline hs o
  | suspect =>
    by_cases hk : k = .probe
    · simpa only [Station.applyState, hs, if_pos hk] using h
    · rw [Station.applyState_suspect hs hk]
      exact h.answeredSuspect hs o now

end

/-! ### The rest of the record -/

/-- The report of a result is no part of the bounds, and its statistics are held in them (R107, R130). -/
theorem Station.safe.booked (k : TxnKind) (o : TxnOutcome) (ident : Option Identity) (word : Option (BitVec 12))
    (now : Round) : (st.booked k o ident word now).safe := by
  obtain ⟨hfail, hset, ⟨hgood, htotal, hdiscarded⟩, hid⟩ := Station.safe_iff.mp h
  rw [Station.booked_eq]
  refine Station.safe_iff.mpr ⟨hfail, hset, ⟨?_, ?_, hdiscarded⟩, hid⟩ <;> dsimp only <;> split <;> omega

theorem Station.safe.applyResult (k : TxnKind) (o : TxnOutcome) {ident : Option Identity}
    (hi : ∀ i ∈ ident, i.inRange) (word : Option (BitVec 12)) (now : Round) :
    (st.applyResult k o ident word now).1.safe := by
  have hseq : { st with seqNext := st.seqAfter k o }.safe := h
  rw [Station.applyResult_eq]
  exact (hseq.booked k o ident word now).applyState hi k o now

theorem Station.safe.generated (k : TxnKind) (counter : Round) : (st.generated k counter).safe := by
  cases k <;> exact h

/-! ### What the station requests write -/

theorem Station.safe.enabled : st.enabled.safe := by
  unfold Station.enabled
  split
  · next hs =>
    obtain ⟨hfail, hset, hstat, hvalid⟩ := (Station.safe_iff_of_away (Or.inl hs)).mp h
    exact (Station.safe_iff_of_away (Or.inr rfl)).mpr ⟨hfail, hset, hstat, hvalid⟩
  · exact h

theorem Station.safe.disabled : st.disabled.safe := by
  obtain ⟨-, hset, hstat, hvalid, -⟩ := Station.safe_iff.mp h
  exact (Station.safe_iff_of_away (Or.inl rfl)).mpr ⟨rfl, hset, hstat, hvalid⟩

/-- A threshold moves at a DISABLED station only, where no failure is counted. -/
theorem Station.safe.configured {b : Bytes} {v : StationSettings} (hv : decodeConfigureStation b = .ok v)
    (hagree : st.thresholdsAgree v = true)
    (hstate : (v.suspectAfter ≠ 0 ∨ v.lostAfter ≠ 0) → st.state = .disabled) : (st.configured v).safe := by
  obtain ⟨hfail, hset, hstat, hid⟩ := Station.safe_iff.mp h
  obtain ⟨⟨-, hlimit1, hlimit2, hprobe, hsuspect, hlost⟩, i, rfl⟩ := decodeConfigureStation_ok hv
  have hagree := of_decide_eq_true hagree
  have hset' : (st.configured (stationSettingsOf i b)).settingsSafe := by
    obtain ⟨hs1, hs2, -, hl2, -⟩ := hset
    exact ⟨one_le_keptOr hs1, keptOr_le hsuspect hs2, hagree, keptOr_le hlost hl2, hlimit1, hlimit2, hprobe, u8_le b 4,
      u8_le b 5⟩
  by_cases hkept : u8 b 6 = 0 ∧ u8 b 7 = 0
  · have hs : keptOr (u8 b 6) st.suspectAfter = st.suspectAfter := if_pos hkept.1
    have hl : keptOr (u8 b 7) st.lostAfter = st.lostAfter := if_pos hkept.2
    refine Station.safe_iff.mpr ⟨?_, hset', hstat, hid⟩
    simpa only [Station.failuresBounded, Station.configured, stationSettingsOf, hs, hl] using hfail
  · have hs : st.state = .disabled := hstate (not_and_or.mp hkept)
    refine Station.safe_iff.mpr ⟨?_, hset', hstat, hid⟩
    simpa only [Station.failuresBounded, Station.configured, hs] using hfail

end

/-! ### The whole table -/

theorem State.stationsSafe.of_eq {s t : State} (h : s.stationsSafe) (e : t.stations = s.stations) : t.stationsSafe := by
  unfold State.stationsSafe State.station at h ⊢
  rwa [e]

theorem State.stationsSafe.setStation {s : State} (h : s.stationsSafe) (i : StationId) {v : Station} (hv : v.safe) :
    (s.setStation i v).stationsSafe := by
  intro j
  rw [State.station_setStation]
  split
  · exact hv
  · exact h j

/-! ### The end of an attempt -/

theorem decodeIdentity_inRange {p : Bytes} : ∀ i ∈ decodeIdentity p, i.inRange := by
  unfold decodeIdentity
  split
  · next hvalid => rintro i ⟨⟩; exact hvalid
  · nofun

theorem Attempt.identityFor_inRange (a : Attempt) (o : TxnOutcome) : ∀ i ∈ a.identityFor o, i.inRange := by
  unfold Attempt.identityFor
  split
  · exact decodeIdentity_inRange
  · nofun

theorem State.stationsSafe.arrive {s : State} (h : s.stationsSafe) (m : Message) : (s.arrive m).stationsSafe := by
  unfold State.arrive
  split
  · exact h.of_eq (s.keepMessage_stations m)
  · obtain ⟨hfail, hset, ⟨hgood, htotal, -⟩, hid⟩ := Station.safe_iff.mp (h m.station)
    have hheld := heldSucc_le (s.station m.station).messagesDiscarded
    exact h.setStation _ (Station.safe_iff.mpr ⟨hfail, hset, ⟨hgood, htotal, hheld⟩, hid⟩)

theorem State.stationsSafe.inboundResult {s : State} (h : s.stationsSafe) (a : Attempt) (o : TxnOutcome) :
    (s.inboundResult a o).stationsSafe := by
  unfold State.inboundResult
  split
  · exact h
  · split
    · exact h.arrive _
    · exact h

/-- Of the steps of R104 the Station Table's and the Inbound Queue's write station records. -/
theorem State.stationsSafe.handOn {s : State} (h : s.stationsSafe) (i : StationId) (a : Attempt) (o : TxnOutcome) :
    (s.handOn i a o).stationsSafe := by
  have hresult : (s.stationResult i a o).1.stationsSafe :=
    h.setStation i ((h i).applyResult a.kind o (a.identityFor_inRange o) a.word _)
  exact (hresult.inboundResult a o).of_eq (by simp [State.handOn])

theorem State.stationsSafe.endAttempt {s : State} (h : s.stationsSafe) (a : Attempt) (o : TxnOutcome) :
    (s.endAttempt a o).stationsSafe := by
  unfold State.endAttempt
  refine State.stationsSafe.of_eq ?_ (State.walk_stations _)
  split
  · exact State.stationsSafe.handOn (s := s.setAttempt none) h _ a o
  · exact h.of_eq (by simp)

theorem State.stationsSafe.frameSent {s : State} (h : s.stationsSafe) (f : SendFrame) : (s.frameSent f).stationsSafe := by
  unfold State.frameSent
  split
  · exact h
  · split
    · exact h
    · split
      · exact State.stationsSafe.endAttempt (s := s.goQuiet) h _ _
      · exact h

theorem State.stationsSafe.reclaimed {s : State} (h : s.stationsSafe) : s.reclaimed.stationsSafe := by
  unfold State.reclaimed
  split
  · exact State.stationsSafe.endAttempt (s := s.goQuiet) h _ _
  · exact h

/-! ### The start of a round -/

theorem State.stationsSafe.generateFor {s : State} (h : s.stationsSafe) (i : StationId) :
    (s.generateFor i).stationsSafe := by
  cases hc : s.call i with
  | none => rwa [State.generateFor_none hc]
  | some k =>
    rw [State.generateFor_some hc]
    exact State.stationsSafe.setStation (s := s.setTxns _) h i ((h i).generated k _)

theorem State.stationsSafe.generate {s : State} (h : s.stationsSafe) (l : List StationId) :
    (s.generate l).stationsSafe := by
  induction l generalizing s with
  | nil => exact h
  | cons i rest ih => exact ih (h.generateFor i)

theorem State.stationsSafe.startRound {s : State} (h : s.stationsSafe) (missing : Bool) :
    (s.startRound missing).stationsSafe := by
  rw [State.startRound_eq]
  have htable : (((s.roundReports missing).setEngine (s.engine.atRoundStart s.now)).setTxns
      ((s.roundReports missing).txns.map (Record.atRoundStart (s.engine.counter + 1)))).stationsSafe :=
    h.of_eq (s.roundReports_stations missing)
  exact (htable.generate allStations).of_eq (by simp)

theorem State.stationsSafe.settleExpired {s : State} (h : s.stationsSafe) : s.settleExpired.stationsSafe := by
  unfold State.settleExpired
  split
  · exact h.startRound _
  · exact h

/-! ### The requests -/

/-- No request but CONFIGURE, ENABLE and DISABLE STATION touches the Station Table. -/
theorem Request.answer_stations {q : Request} (b : Bytes) (s : State) (h1 : q ≠ .configureStation)
    (h2 : q ≠ .enableStation) (h3 : q ≠ .disableStation) : (q.answer b s).1.stations = s.stations := by
  cases q
  case configureStation => exact absurd rfl h1
  case enableStation => exact absurd rfl h2
  case disableStation => exact absurd rfl h3
  all_goals
    simp only [Request.answer, answerIdentify, answerResetDevice, answerConfigureLine, answerReadLine,
      answerConfigureRound, answerReadRound, answerDefineSegment, answerDeleteSegment, answerUpdateSegment,
      answerReadSegment, answerStart, answerStop, answerReadStation, answerSubmit, answerCancel, answerReadQueue,
      answerConfigureInbound, answerTakeMessages, answerFetchReports, answerAckReports, answerReadEvents,
      answerAckEvent, answerMaskEvents, State.refuse]
    repeat' split
    all_goals simp

theorem State.stationsSafe.configureStation {s : State} (h : s.stationsSafe) (b : Bytes) :
    (answerConfigureStation b s).1.stationsSafe := by
  cases hv : decodeConfigureStation b with
  | error e =>
    rw [answerConfigureStation, hv]
    exact h
  | ok v =>
    rw [answerConfigureStation_decoded s hv]
    split_ifs with hagree hstate
    · exact h
    · exact h
    · exact h.setStation _ ((h _).configured hv (by simpa using hagree) fun hmoved => by
        by_contra hs
        exact hstate ⟨hmoved, hs⟩)

theorem State.stationsSafe.disableStation {s : State} (h : s.stationsSafe) (i : StationId) :
    (s.disableStation i).stationsSafe := by
  have hflushed : ((s.completeAll (Record.names i) .stationDisabled).removeInternal (Record.names i)).stationsSafe :=
    h.of_eq (by simp)
  exact hflushed.setStation i (hflushed i).disabled

theorem Request.answer_stationsSafe (q : Request) (b : Bytes) (s : State) (h : s.stationsSafe) :
    (q.answer b s).1.stationsSafe := by
  cases q
  case configureStation => exact h.configureStation b
  case enableStation =>
    simp only [Request.answer, answerEnableStation, State.refuse]
    split
    · exact h
    · exact h.setStation _ (h _).enabled
  case disableStation =>
    simp only [Request.answer, answerDisableStation, State.refuse]
    split
    · exact h
    · exact h.disableStation _
  all_goals exact h.of_eq (Request.answer_stations b s nofun nofun nofun)

/-! ### Every step -/

theorem State.deviceReset_stationsSafe (s : State) : s.deviceReset.stationsSafe := fun i => by
  have hi : s.deviceReset.station i = Station.reset := by simp [State.station, State.deviceReset, State.reset]
  rw [hi]
  exact Station.reset_safe

theorem keeps_stationsSafe : Keeps State.stationsSafe where
  now _ _ h := h
  pending _ _ h := h
  hold _ _ h := h
  port _ _ h := h
  reset s _ := s.deviceReset_stationsSafe
  hostError _ _ h := h.of_eq (by simp)
  request q b s h := q.answer_stationsSafe b s h
  settle _ h _ _ := h.settleExpired
  round _ missing h _ _ := h.startRound missing
  trig _ h := h.of_eq (by simp)
  segment _ h _ _ := h.of_eq (by simp)
  opening _ h _ _ := h.of_eq (by simp)
  gapEnd _ h := h
  roundEnd _ h _ _ := h.of_eq (by simp)
  fault _ h _ _ := h.of_eq (by simp)
  sample _ _ h _ := h
  sent _ f h _ := h.frameSent f
  contend _ h := h.of_eq (by simp)
  guard _ h := h.of_eq (by simp)
  start _ h := h.of_eq (by simp)
  expired _ _ h _ := h.of_eq (by simp)
  deliver _ _ _ _ h _ := h.of_eq (by simp)
  talk _ _ h _ _ := h.of_eq (by simp)
  reclaimed _ _ h _ := h.reclaimed

/-- Settles O57: a result, an arrival, a round start and the three station requests are all that write a station record, and
each keeps the record in its bounds. -/
theorem stepsKeepStations : Obligations.StepsKeepStations := by
  unfold Obligations.StepsKeepStations
  exact fun _ _ h e => keeps_stationsSafe.step h e

end Sys2Proof.Machine
end

section
namespace Sys2Proof.Machine

/-! ## CONFIGURE STATION (O17) -/

theorem Station.thresholdsAgree_eq_false {st : Station} {v : StationSettings} :
    st.thresholdsAgree v = false
      ↔ ¬ keptOr v.suspectAfter st.suspectAfter + 1 ≤ keptOr v.lostAfter st.lostAfter := decide_eq_false_iff_not

/-- Settles O17: the body's checks, those against the station's record, and the fields an accepted request carries. -/
theorem configureStation : Obligations.ConfigureStation := by
  unfold Obligations.ConfigureStation
  intro tag b s h
  have hrefuse {st : Status} (ha : answerConfigureStation b s = s.refuse st) :=
    exec_of_refused (q := .configureStation) h ha
  refine ⟨fun hb => hrefuse (by rw [answerConfigureStation, decodeConfigureStation_badLength hb]),
    fun hb hv => hrefuse (by rw [answerConfigureStation, decodeConfigureStation_badStation hb hv]),
    fun i hb hi suspect lost hsuspect hlost => ?_⟩
  by_cases hrange : stationSettingsInRange b
  · have hanswer := answerConfigureStation_decoded s (decodeConfigureStation_inRange hb hi hrange)
    have hagree : (s.station i).thresholdsAgree (stationSettingsOf i b) = false ↔ ¬ suspect + 1 ≤ lost := by
      rw [Station.thresholdsAgree_eq_false, hsuspect, hlost]
      rfl
    obtain ⟨h1, h2, h3, h4, h5, h6⟩ := hrange
    by_cases hvalid : suspect + 1 ≤ lost
    · rw [if_neg (not_not.mpr ⟨h1, h2, h3, h4, h5, h6, hvalid⟩)]
      replace hanswer := hanswer.trans (if_neg (mt hagree.mp (not_not.mpr hvalid)))
      by_cases hmoved : (u8 b 6 ≠ 0 ∨ u8 b 7 ≠ 0) ∧ (s.station i).state ≠ .disabled
      · rw [if_pos hmoved]
        exact hrefuse (hanswer.trans (if_pos hmoved))
      · rw [if_neg hmoved, hsuspect, hlost]
        exact exec_of_ok (q := .configureStation) h (hanswer.trans (if_neg hmoved))
    · rw [if_pos fun ⟨_, _, _, _, _, _, hthresholds⟩ => hvalid hthresholds]
      exact hrefuse (hanswer.trans (if_pos (hagree.mpr hvalid)))
  · rw [if_pos fun ⟨h1, h2, h3, h4, h5, h6, _⟩ => hrange ⟨h1, h2, h3, h4, h5, h6⟩]
    exact hrefuse (by rw [answerConfigureStation, decodeConfigureStation_badRange hb hi hrange])

/-! ## ENABLE STATION and DISABLE STATION (O24) -/

theorem State.setStation_self (s : State) (i : StationId) : s.setStation i (s.station i) = s := by
  simp [State.setStation, State.station]

/-- ENABLE STATION writes at a DISABLED station alone (R125). -/
theorem State.setStation_enabled (s : State) (i : StationId) :
    s.setStation i (s.station i).enabled
      = if (s.station i).state = .disabled then
          s.setStation i { s.station i with state := .offline, probeDue := true } else s := by
  unfold Station.enabled
  split
  · rfl
  · exact s.setStation_self i

/-- The three steps of DISABLE STATION: the completions, the internal record and the station's four fields (R126). -/
theorem State.disableStation_eq {s u : State} {i : StationId}
    (hu : u = s.completeAll (fun r => decide (r.target = .station i)) .stationDisabled) :
    s.disableStation i
      = (u.setTxns (u.txns.filter fun r => r.isHost || r.onLine || decide (r.target ≠ .station i))).setStation i
          { s.station i with state := .disabled, failures := 0, seqNext := false, probeDue := false } := by
  have hstation : (u.removeInternal (Record.names i)).station i = s.station i := by
    rw [State.station, State.removeInternal_stations, hu, State.completeAll_stations, ← State.station]
  rw [State.disableStation, Record.names_eq, ← hu, ← Record.names_eq, hstation, State.removeInternal_eq,
    Record.names_eq]
  simp only [decide_not]
  rfl

/-- Settles O24: ENABLE at a DISABLED station and at any other, and the three steps of DISABLE in order. -/
theorem enableAndDisableStation : Obligations.EnableAndDisableStation := by
  unfold Obligations.EnableAndDisableStation
  refine ⟨fun tag b s h => ?_, fun tag b s h => ?_⟩
  · have hrefuse {st : Status} (ha : answerEnableStation b s = s.refuse st) :=
      exec_of_refused (q := .enableStation) h ha
    refine ⟨fun hb => hrefuse (by rw [answerEnableStation, decodeIndex_badLength hb]),
      fun hb hv => hrefuse (by rw [answerEnableStation, decodeIndex_badValue hb hv]), fun i hb hi => ?_⟩
    rw [← State.setStation_enabled]
    exact exec_of_ok (q := .enableStation) h (by rw [Request.answer, answerEnableStation, decodeIndex_ok hb hi.symm])
  · have hrefuse {st : Status} (ha : answerDisableStation b s = s.refuse st) :=
      exec_of_refused (q := .disableStation) h ha
    refine ⟨fun hb => hrefuse (by rw [answerDisableStation, decodeIndex_badLength hb]),
      fun hb hv => hrefuse (by rw [answerDisableStation, decodeIndex_badValue hb hv]), fun i u hb hi hu => ?_⟩
    rw [← State.disableStation_eq hu]
    exact exec_of_ok (q := .disableStation) h
      (by rw [Request.answer, answerDisableStation, decodeIndex_ok hb hi.symm]; rfl)

/-! ## READ STATION (O25) -/

theorem bitWeight_isSome {α : Type} (o : Option α) [Decidable (o = none)] (k : Nat) :
    bitWeight o.isSome k = if o = none then 0 else 2 ^ k := by
  cases o <;> simp [bitWeight]

/-- The flags byte, bit by bit (R180). -/
theorem stationFlags_eq (st : Station) (internal : Option Record) :
    stationFlags st internal
      = (if st.probeDue = true then 1 else 0) + (if st.identity = none then 0 else 2)
        + (if st.lastReport = none then 0 else 4)
        + (match internal with
            | none => 0
            | some r => 8 + (if r.kind = .probe then 16 else 0) + (if r.onLine = true then 32 else 0)) := by
  simp only [stationFlags, bitWeight_isSome]
  cases internal with
  | none => rfl
  | some r => simp [bitWeight, Nat.add_assoc]

/-! The reply's length is the sum of its fields' lengths. -/

@[simp] theorem le1_length (n : Nat) : (le1 n).length = 1 := rfl
@[simp] theorem le2_length (n : Nat) : (le2 n).length = 2 := rfl
@[simp] theorem le4_length (n : Nat) : (le4 n).length = 4 := rfl
@[simp] theorem leBool_length (v : Bool) : (leBool v).length = 1 := rfl

@[simp] theorem identityBytes_length (i : Option Identity) : (identityBytes i).length = 8 := by
  cases i <;> rfl

/-- The 45 bytes of the reply less its status and its REPEAT flag (R180). -/
theorem State.stationFields_length (s : State) (i : StationId) : (s.stationFields i).length = 43 := by
  unfold State.stationFields
  simp only [List.length_append, le1_length, le2_length, le4_length, leBool_length, identityBytes_length]

/-- The identity's bytes, all zero when there is none (R180, R182). -/
theorem identityBytes_eq (x : Option Identity) :
    identityBytes x = match x with
      | some i => le2 i.typeCode.toNat ++ le1 i.revision.toNat ++ le1 i.channels.toNat ++ le2 i.maxLength
          ++ le2 i.serialLow.toNat
      | none => [0, 0, 0, 0, 0, 0, 0, 0] := by
  cases x with
  | none => rfl
  | some i => simp [identityBytes, le1]

theorem answerReadStation_decoded {b : Bytes} {i : StationId} (s : State) (hi : decodeIndex 8 b = .ok i) :
    answerReadStation b s = (s, .ok (s.stationFields i)) := by
  rw [answerReadStation, hi]

/-- Settles O25: the reply's fields in their order; the flags byte and the identity each have their own lemma, and the last
report is there or all zero. -/
theorem readStationReply : Obligations.ReadStationReply := by
  unfold Obligations.ReadStationReply
  intro tag b s h
  have hrefuse {st : Status} (ha : answerReadStation b s = s.refuse st) := exec_of_refused (q := .readStation) h ha
  refine ⟨fun hb => hrefuse (by rw [answerReadStation, decodeIndex_badLength hb]),
    fun hb hv => hrefuse (by rw [answerReadStation, decodeIndex_badValue hb hv]),
    fun i st internal hb hi hst hint => ?_⟩
  refine ⟨s.stationFields i,
    exec_of_ok (q := .readStation) h (answerReadStation_decoded s (decodeIndex_ok hb hi.symm)),
    s.stationFields_length i, ?_⟩
  have hinternal : s.internalOf i = internal := by rw [hint]; rfl
  unfold State.stationFields
  dsimp only
  rw [← hst, hinternal, stationFlags_eq, identityBytes_eq, List.append_assoc _ (le2 _) (le4 _)]
  cases st.lastReport <;> rfl

end Sys2Proof.Machine
end

section
namespace Sys2Proof.Machine

/-! ## CONFIGURE INBOUND (O30) -/

theorem answerConfigureInbound_decoded {b : Bytes} {n : Nat} (s : State) (hn : decodeCount 16 b = .ok n) :
    answerConfigureInbound b s = (s.setInbound { s.inbound with threshold := n },
      .ok (le1 s.inbound.threshold ++ le1 s.inbound.messages.length ++ le2 s.inbound.bytesHeld)) := by
  rw [answerConfigureInbound, hn]

theorem exec_configureInbound {tag : Byte} {b : Bytes} {s : State} (h : s.takes tag 0x50 b) :
    exec (.configureInbound tag b) s = .next (
      if b.length ≠ 1 then s.refused .configureInbound tag b .badLength
      else if u8 b 0 = 0 ∨ 16 < u8 b 0 then s.refused .configureInbound tag b .badValue
      else s.answered (s.setInbound { s.inbound with threshold := u8 b 0 }) .configureInbound tag b .ok
        (le1 s.inbound.threshold ++ le1 s.inbound.messages.length ++ le2 s.inbound.bytesHeld)) := by
  have hrefuse {st : Status} (ha : answerConfigureInbound b s = s.refuse st) :=
    exec_of_refused (q := .configureInbound) h ha
  split_ifs with hb hv
  · exact hrefuse (by rw [answerConfigureInbound, decodeCount_badLength hb])
  · exact hrefuse (by rw [answerConfigureInbound, decodeCount_badValue (not_not.mp hb) hv])
  · exact exec_of_ok (q := .configureInbound) h (answerConfigureInbound_decoded s (decodeCount_ok (not_not.mp hb) hv))

/-! ## TAKE MESSAGES (O30) -/

/-! ### The oldest items as far as a number and a space allow -/

/-- `taken` is as long as at most `n` items of `space` in all allow, when `rest` comes after it (R137, R145). -/
def longestPrefix {α : Type} (size : α → Nat) (n space : Nat) (taken rest : List α) : Prop :=
  taken.length ≤ n ∧ (taken.map size).sum ≤ space
  ∧ (taken.length = n ∨ rest = [] ∨ ∃ x more, rest = x :: more ∧ space < (taken.map size).sum + size x)

theorem longestPrefix_zero {α : Type} (size : α → Nat) (space : Nat) (l : List α) : longestPrefix size 0 space [] l :=
  ⟨Nat.le_refl 0, Nat.zero_le space, .inl rfl⟩

theorem longestPrefix_nil {α : Type} (size : α → Nat) (n space : Nat) : longestPrefix size n space [] [] :=
  ⟨Nat.zero_le n, Nat.zero_le space, .inr (.inl rfl)⟩

/-- Nothing is taken when the first item is too large. -/
theorem longestPrefix_of_lt {α : Type} {size : α → Nat} {n space : Nat} {x : α} {rest : List α} (h : space < size x) :
    longestPrefix size n space [] (x :: rest) :=
  ⟨Nat.zero_le n, Nat.zero_le space, .inr (.inr ⟨x, rest, rfl, by simpa using h⟩)⟩

/-- An item that fits comes before what fits into the space it leaves. -/
theorem longestPrefix.cons {α : Type} {size : α → Nat} {n space : Nat} {x : α} {taken rest : List α}
    (hx : size x ≤ space) (h : longestPrefix size n (space - size x) taken rest) :
    longestPrefix size (n + 1) space (x :: taken) rest := by
  obtain ⟨hlen, hsum, hstop⟩ := h
  unfold longestPrefix
  rw [List.length_cons, List.map_cons, List.sum_cons]
  refine ⟨Nat.succ_le_succ hlen, by omega, ?_⟩
  obtain hfull | hend | ⟨y, more, hrest, hlarge⟩ := hstop
  · exact .inl (congrArg (· + 1) hfull)
  · exact .inr (.inl hend)
  · exact .inr (.inr ⟨y, more, hrest, by omega⟩)

/-! ### The messages taken -/

/-- The number of messages a TAKE returns is that of the longest prefix (R137). -/
theorem takeCount_longestPrefix (n space : Nat) (l : List Message) :
    ∃ taken rest, l = taken ++ rest ∧ taken.length = takeCount n space l
      ∧ longestPrefix (fun m => 8 + m.payload.length) n space taken rest := by
  fun_induction takeCount n space l with
  | case1 space l => exact ⟨[], l, rfl, rfl, longestPrefix_zero _ space l⟩
  | case2 n space => exact ⟨[], [], rfl, rfl, longestPrefix_nil _ _ space⟩
  | case3 n space m l hm ih =>
    obtain ⟨taken, rest, rfl, hlen, hlongest⟩ := ih
    exact ⟨m :: taken, rest, rfl, congrArg (· + 1) hlen, hlongest.cons hm⟩
  | case4 n space m l hm => exact ⟨[], m :: l, rfl, rfl, longestPrefix_of_lt (Nat.lt_of_not_le hm)⟩

theorem Message.bytes_eq (m : Message) :
    m.bytes = le1 (m.station.val + 16 * m.channel.val)
      ++ le1 ((if m.headerCorrected = true then 1 else 0) + (if m.headerSuspect = true then 2 else 0))
      ++ le2 m.payload.length ++ le4 m.arrival.toNat ++ m.payload := rfl

/-- TAKE MESSAGES of a number in range, the queue split where the count says. -/
theorem answerTakeMessages_decoded {b : Bytes} {n : Nat} {s : State} {taken rest : List Message}
    (hn : decodeCount 8 b = .ok n) (hq : s.inbound.messages = taken ++ rest)
    (hk : taken.length = takeCount n takeSpace s.inbound.messages) :
    answerTakeMessages b s = (s.setInbound { s.inbound with messages := rest },
      .ok (le1 taken.length ++ le1 rest.length ++ le2 (rest.map fun m => m.payload.length).sum
        ++ taken.flatMap Message.bytes)) := by
  rw [answerTakeMessages, hn]
  dsimp only
  rw [← hk, hq, List.take_left, List.drop_left]
  rfl

/-- Settles O30: the threshold's two checks, and a TAKE that removes the longest prefix the number and the reply allow. -/
theorem inboundRequests : Obligations.InboundRequests := by
  unfold Obligations.InboundRequests
  refine ⟨fun tag b s h => exec_configureInbound h, fun tag b s h => ?_⟩
  have hrefuse {st : Status} (ha : answerTakeMessages b s = s.refuse st) := exec_of_refused (q := .takeMessages) h ha
  refine ⟨fun hb => hrefuse (by rw [answerTakeMessages, decodeCount_badLength hb]),
    fun hb hv => hrefuse (by rw [answerTakeMessages, decodeCount_badValue hb hv]), fun hb hmin hmax => ?_⟩
  have hdecode : decodeCount 8 b = .ok (u8 b 0) := decodeCount_ok hb (by omega)
  obtain ⟨taken, rest, hq, hk, hnumber, hspace, hstop⟩ :=
    takeCount_longestPrefix (u8 b 0) takeSpace s.inbound.messages
  refine ⟨taken.length, taken, rest, hq, rfl, hnumber, hspace, hstop, ?_⟩
  simp only [← Message.bytes_eq]
  exact exec_of_ok (q := .takeMessages) h (answerTakeMessages_decoded hdecode hq hk)

end Sys2Proof.Machine
end

section
namespace Sys2Proof.Machine

/-! ## The event sources and the Report Queue (O56) -/

/-! ### Consecutive numbers -/

theorem numberedFrom_append {n : BitVec 16} {l l' : List Report} :
    numberedFrom n (l ++ l') ↔ numberedFrom n l ∧ numberedFrom (n + BitVec.ofNat 16 l.length) l' := by
  induction l generalizing n with
  | nil => simp [numberedFrom]
  | cons r rest ih =>
    have hlength : n + BitVec.ofNat 16 (r :: rest).length = n + 1 + BitVec.ofNat 16 rest.length := by
      rw [List.length_cons, Nat.add_comm, BitVec.ofNat_add, BitVec.add_assoc]
      rfl
    rw [List.cons_append, numberedFrom, numberedFrom, ih, hlength, and_assoc]

/-- Counted back from the next number, the number of a report is that of the place its followers leave (R142). -/
theorem seq_sub_add_length (next : BitVec 16) (a b : Nat) :
    next - BitVec.ofNat 16 (a + b) + BitVec.ofNat 16 a = next - BitVec.ofNat 16 b := by
  rw [BitVec.ofNat_add]
  ring

/-- The reports carry consecutive numbers up to the next one (R142). -/
def ReportQueue.consecutive (q : ReportQueue) : Prop :=
  numberedFrom (q.nextSeq - BitVec.ofNat 16 q.queue.length) q.queue

/-- Reports that leave at the head leave consecutive numbers (R142, R147). -/
theorem ReportQueue.consecutive.drop {q : ReportQueue} (h : q.consecutive) (k : Nat) :
    ReportQueue.consecutive { q with queue := q.queue.drop k } := by
  unfold ReportQueue.consecutive at h ⊢
  rw [← List.take_append_drop k q.queue, numberedFrom_append, List.length_append, seq_sub_add_length] at h
  exact h.2

/-- A report that joins the tail takes the next number (R142). -/
theorem ReportQueue.consecutive.append {q : ReportQueue} (h : q.consecutive) (b : ReportBody) :
    ReportQueue.consecutive { queue := q.queue ++ [{ seq := q.nextSeq, body := b }], nextSeq := q.nextSeq + 1 } := by
  have hfirst : q.nextSeq + 1 - BitVec.ofNat 16 (q.queue.length + 1) = q.nextSeq - BitVec.ofNat 16 q.queue.length := by
    rw [BitVec.ofNat_add, BitVec.ofNat_eq_ofNat]
    ring
  have hlast : q.nextSeq - BitVec.ofNat 16 q.queue.length + BitVec.ofNat 16 q.queue.length = q.nextSeq :=
    BitVec.sub_add_cancel _ _
  unfold ReportQueue.consecutive
  rw [List.length_append, List.length_singleton, hfirst, numberedFrom_append, hlast]
  exact ⟨h, rfl, trivial⟩

/-! ### Reports and sources -/

theorem State.reportQueued_iff {s : State} {src : SourceId} :
    s.reportQueued src = true ↔ ∃ r ∈ s.reports.queue, r.isEventOf src = true := List.any_eq_true

theorem State.reportQueued_eq_false {s : State} {src : SourceId} :
    s.reportQueued src = false ↔ s.reports.queue.countP (fun r => r.isEventOf src) = 0 := by
  rw [List.countP_eq_zero, State.reportQueued, List.any_eq_false]

theorem Source.released_safe (e : Source) : e.released.safe := ⟨Nat.zero_le _, by simp [Source.released]⟩

theorem Source.occurred_safe (e : Source) (d : Detail) (round : Round) : (e.occurred d round).safe :=
  ⟨Nat.min_le_left .., by simp [Source.occurred]⟩

/-- The source of an EVENT report. -/
def Report.source? (r : Report) : Option SourceId :=
  match r.body with
  | .completion _ => none
  | .event e => some e.source

theorem Report.source?_eq_some {r : Report} {src : SourceId} : r.source? = some src ↔ r.isEventOf src = true := by
  unfold Report.source? Report.isEventOf
  cases r.body <;> simp

theorem Report.source?_isSome (r : Report) : r.source?.isSome = !r.isCompletion := by
  unfold Report.source? Report.isCompletion
  cases r.body <;> rfl

/-! ### What may change the sources and the queue -/

section
variable {s : State} (h : s.eventsSafe)
include h

theorem State.eventsSafe.of_eq {t : State} (hr : t.reports = s.reports) (he : t.events = s.events) : t.eventsSafe := by
  have hsource (src : SourceId) : t.source src = s.source src := by rw [State.source, he, State.source]
  have hqueued (src : SourceId) : t.reportQueued src = s.reportQueued src := by
    rw [State.reportQueued, hr, State.reportQueued]
  unfold State.eventsSafe
  simp only [hsource, hqueued, hr]
  exact h

theorem State.eventsSafe.setLine (v : LineIface) : (s.setLine v).eventsSafe := h
theorem State.eventsSafe.setEngine (v : Engine) : (s.setEngine v).eventsSafe := h
theorem State.eventsSafe.setTxns (v : List Record) : (s.setTxns v).eventsSafe := h
theorem State.eventsSafe.setSched (v : Scheduler) : (s.setSched v).eventsSafe := h
theorem State.eventsSafe.setAttempt (v : Option Attempt) : (s.setAttempt v).eventsSafe := h
theorem State.eventsSafe.setInbound (v : Inbound) : (s.setInbound v).eventsSafe := h

/-- A source may be rewritten within its bounds, latched still when its report is queued. -/
theorem State.eventsSafe.setSource {src : SourceId} {v : Source} (hv : v.safe)
    (hlatched : s.reportQueued src = true → v.latched = true) : (s.setSource src v).eventsSafe := by
  obtain ⟨hsafe, hqueued, hone, hseq⟩ := h
  refine ⟨fun x => ?_, fun x hx => ?_, hone, hseq⟩
  · rw [State.source_setSource]
    split
    · exact hv
    · exact hsafe x
  · rw [State.source_setSource]
    split
    · next e => exact hlatched (e ▸ hx)
    · exact hqueued x hx

/-- A report may be queued when its source, if it has one, is latched and has no report in the queue. -/
theorem State.eventsSafe.queueReport {b : ReportBody}
    (hb : ∀ src, (Report.mk s.reports.nextSeq b).isEventOf src = true →
      (s.source src).latched = true ∧ s.reportQueued src = false) : (s.queueReport b).eventsSafe := by
  obtain ⟨hsafe, hqueued, hone, hseq⟩ := h
  refine ⟨hsafe, fun x hx => ?_, fun x => ?_, ReportQueue.consecutive.append hseq b⟩
  · obtain ⟨r, hr, hx⟩ := State.reportQueued_iff.mp hx
    rcases List.mem_append.mp hr with hr | hr
    · exact hqueued x (State.reportQueued_iff.mpr ⟨r, hr, hx⟩)
    · rw [List.mem_singleton.mp hr] at hx
      exact (hb x hx).1
  · have hcount : (s.queueReport b).reports.queue.countP (fun r => r.isEventOf x)
        = s.reports.queue.countP (fun r => r.isEventOf x)
          + [Report.mk s.reports.nextSeq b].countP fun r => r.isEventOf x := List.countP_append
    rw [hcount]
    by_cases hx : (Report.mk s.reports.nextSeq b).isEventOf x = true
    · rw [State.reportQueued_eq_false.mp (hb x hx).2, Nat.zero_add]
      exact List.countP_le_length
    · have hnew : [Report.mk s.reports.nextSeq b].countP (fun r => r.isEventOf x) = 0 :=
        List.countP_singleton.trans (if_neg hx)
      rw [hnew]
      exact hone x

theorem State.eventsSafe.queueCompletion (c : Completion) : (s.queueReport (.completion c)).eventsSafe :=
  h.queueReport nofun

/-- The first occurrence of an unmasked source queues its report, as no report of an unlatched source is queued. -/
theorem State.eventsSafe.occur (src : SourceId) (d : Detail) : (s.occur src d).eventsSafe := by
  have hset : (s.setSource src ((s.source src).occurred d s.engine.counter)).eventsSafe :=
    h.setSource (Source.occurred_safe ..) fun _ => rfl
  unfold State.occur
  dsimp only
  split
  · exact hset
  · next hfirst =>
    refine hset.queueReport fun x hx => ?_
    obtain rfl : src = x := by simpa [State.eventReport, Report.isEventOf] using hx
    obtain ⟨-, hqueued, -, -⟩ := h
    refine ⟨by rw [State.source_setSource, if_pos rfl]; rfl, ?_⟩
    by_contra hreport
    exact hfirst (.inl (hqueued src (Bool.eq_true_of_not_eq_false hreport)))

/-- Reports leave at the head of the queue (R147). -/
theorem State.eventsSafe.dropReports (k : Nat) :
    (s.setReports { s.reports with queue := s.reports.queue.drop k }).eventsSafe := by
  obtain ⟨hsafe, hqueued, hone, hseq⟩ := h
  have hsub := List.drop_sublist k s.reports.queue
  refine ⟨hsafe, fun x hx => ?_, fun x => hsub.countP_le.trans (hone x), ReportQueue.consecutive.drop hseq k⟩
  obtain ⟨r, hr, hx⟩ := State.reportQueued_iff.mp hx
  exact hqueued x (State.reportQueued_iff.mpr ⟨r, hsub.subset hr, hx⟩)

/-- A source is released when its report has left the queue (R152). -/
theorem State.eventsSafe.release {src : SourceId} (hreport : ¬ s.reportQueued src = true) :
    (s.setSource src (s.source src).released).eventsSafe :=
  h.setSource (Source.released_safe _) fun e => absurd e hreport

/-- Unmasking queues the report of a latched source that has none in the queue (R153). -/
theorem State.eventsSafe.maskOne (src : SourceId) (m : Bool) : (s.maskOne src m).eventsSafe := by
  have hset : (s.setSource src { s.source src with masked := m }).eventsSafe := by
    have ⟨hsafe, hqueued, _, _⟩ := h
    exact h.setSource (hsafe src) (hqueued src)
  unfold State.maskOne
  dsimp only
  split
  · next hreport =>
    obtain ⟨-, -, hlatched, hnone⟩ := hreport
    refine hset.queueReport fun x hx => ?_
    obtain rfl : src = x := by simpa [State.eventReport, Report.isEventOf] using hx
    exact ⟨by rw [State.source_setSource, if_pos rfl]; exact hlatched, hnone⟩
  · exact hset

end

theorem State.eventsSafe.maskAll {s : State} (h : s.eventsSafe) (l : List (SourceId × Bool)) :
    (s.maskAll l).eventsSafe := by
  induction l generalizing s with
  | nil => exact h
  | cons x rest ih => exact ih (h.maskOne x.1 x.2)

theorem State.eventsSafe.queueCompletions {s : State} (h : s.eventsSafe) (o : TxnOutcome) (l : List Record) :
    (s.queueCompletions o l).eventsSafe := by
  induction l generalizing s with
  | nil => exact h
  | cons r rest ih => exact ih (h.queueCompletion _)

theorem State.eventsSafe.staleOccurrences {s : State} (h : s.eventsSafe) (l : List SegmentIndex) :
    (s.staleOccurrences l).eventsSafe := by
  induction l generalizing s with
  | nil => exact h
  | cons k rest ih => exact ih (h.occur _ _)

section
variable {s : State} (h : s.eventsSafe)
include h

theorem State.eventsSafe.completeAll (p : Record → Bool) (o : TxnOutcome) : (s.completeAll p o).eventsSafe :=
  (h.setTxns _).queueCompletions o _

theorem State.eventsSafe.flushAll (o : TxnOutcome) : (s.flushAll o).eventsSafe := h.completeAll (fun _ => true) o

/-! ### The end of an attempt -/

theorem State.eventsSafe.walk : s.walk.eventsSafe := by
  refine State.walk_keeps (fun u r hu => ?_) (fun u r hu => hu) h
  obtain e | ⟨i, -, -, e⟩ := u.holdPoll_cases r
  · rw [e]; exact hu
  · rw [e]; exact (State.eventsSafe.setSched hu _).occur _ _

theorem State.eventsSafe.inboundResult (a : Attempt) (o : TxnOutcome) : (s.inboundResult a o).eventsSafe := by
  unfold State.inboundResult
  split
  · exact h
  · split
    · unfold State.arrive State.keepMessage
      split
      · dsimp only
        split
        · exact (h.setInbound _).occur _ _
        · exact h
      · exact h
    · exact h

theorem State.eventsSafe.treatRecord (res : AttemptResult) : (s.treatRecord res).eventsSafe := by
  obtain e | ⟨r, -, ⟨-, e⟩ | ⟨-, -, -, e⟩ | ⟨-, e⟩⟩ := s.treatRecord_cases res
  · rw [e]; exact h
  · rw [e]; exact h
  · rw [e]; exact h
  · rw [e]; exact (h.setTxns _).queueCompletion _

theorem State.eventsSafe.flushFor (i : StationId) (c : StationChange) : (s.flushFor i c).eventsSafe := by
  cases c with
  | lost => exact h.completeAll (Record.names i) .stationLost
  | _ => exact h

theorem State.eventsSafe.stationEvents (i : StationId) (c : StationChange) (a : Attempt) (o : TxnOutcome) :
    (s.stationEvents i c a o).eventsSafe := by
  unfold State.stationEvents
  have hstate : (match c.event a.kind o with
      | some (k, d) => s.occur (stationSource i k) d
      | none => s).eventsSafe := by
    split
    · exact h.occur _ _
    · exact h
  dsimp only
  split
  · exact hstate.occur _ _
  · exact hstate

theorem State.eventsSafe.handOn (i : StationId) (a : Attempt) (o : TxnOutcome) : (s.handOn i a o).eventsSafe := by
  have hresult : (s.stationResult i a o).1.eventsSafe := h
  exact (((hresult.inboundResult a o).treatRecord _).flushFor i _).stationEvents i _ a o

theorem State.eventsSafe.endAttempt (a : Attempt) (o : TxnOutcome) : (s.endAttempt a o).eventsSafe := by
  unfold State.endAttempt
  refine State.eventsSafe.walk ?_
  split
  · exact (h.setAttempt none).handOn _ a o
  · exact (h.setAttempt none).treatRecord _

/-! ### What the line and the turn do -/

theorem State.eventsSafe.frameSent (f : SendFrame) : (s.frameSent f).eventsSafe := by
  unfold State.frameSent
  split
  · exact h
  · split
    · exact h
    · split
      · exact State.eventsSafe.endAttempt (s := s.goQuiet) h _ _
      · exact h

theorem State.eventsSafe.contend : s.contend.eventsSafe := by
  have hcount (l : LineIface) (f : SendFrame) : ((s.setLine l).countContention f).eventsSafe :=
    ((h.setLine l).setLine _).occur _ _
  unfold State.contend
  split
  · split
    · exact h
    · split
      · exact (hcount s.line _).of_eq (State.abortFrame_reports ..) (State.abortFrame_events ..)
      · exact hcount _ _
  all_goals exact h

theorem State.eventsSafe.reclaimed : s.reclaimed.eventsSafe := by
  unfold State.reclaimed
  split
  · exact State.eventsSafe.endAttempt (s := s.goQuiet) h _ _
  · exact h

/-! ### What the rounds do -/

theorem State.eventsSafe.roundReports (missing : Bool) : (s.roundReports missing).eventsSafe := by
  unfold State.roundReports
  refine State.eventsSafe.completeAll (State.eventsSafe.staleOccurrences ?_ _) _ _
  have hcounted : ((if missing = true then s.occur srcTrigger .missing else s).setEngine
      { s.engine with counter := s.engine.counter + 1 }).eventsSafe := by
    split
    · exact h.occur srcTrigger .missing
    · exact h
  dsimp only
  split
  · exact hcounted.occur _ _
  · exact hcounted

theorem State.eventsSafe.startRound (missing : Bool) : (s.startRound missing).eventsSafe := by
  rw [State.startRound_eq]
  exact (h.roundReports missing).of_eq (by simp) (by simp)

theorem State.eventsSafe.settleExpired : s.settleExpired.eventsSafe := by
  unfold State.settleExpired
  split
  · exact h.startRound _
  · exact h

theorem State.eventsSafe.trigEdge : s.trigEdge.eventsSafe := by
  unfold State.trigEdge
  split
  · exact h
  · split
    · exact h
    · exact h.occur _ _
  · split
    · exact h
    · split
      · exact h
      · exact h.occur _ _
  all_goals exact h

theorem State.eventsSafe.openGap : s.openGap.eventsSafe := by
  unfold State.openGap
  split
  · exact ((h.setEngine _).setSched _).walk
  · exact h

theorem State.eventsSafe.enterStopped : s.enterStopped.eventsSafe := by
  have hended : (((s.setActivity .off).setEngine (s.engine.endRun .stopped)).closeGap).eventsSafe := h
  exact (hended.flushAll _).occur _ _

theorem State.eventsSafe.enterHalted : s.enterHalted.eventsSafe := by
  have hended : (((s.setEngine (s.engine.endRun .halted)).setActivity .off).closeGap).eventsSafe := h
  exact ((hended.flushAll _).occur _ _).occur _ _

/-! ### What the requests do -/

theorem State.eventsSafe.stopRunning : s.stopRunning.eventsSafe := by
  unfold State.stopRunning
  dsimp only
  split
  · exact ((h.setEngine _).setSched _).enterStopped
  · exact h

theorem State.eventsSafe.stop : s.stop.eventsSafe := by
  unfold State.stop
  split
  · exact h
  · exact h.enterStopped
  · exact h.stopRunning
  · exact h
  · exact (h.setEngine _).occur _ _

end

theorem Request.answer_eventsSafe (q : Request) (b : Bytes) (s : State) (h : s.eventsSafe) :
    (q.answer b s).1.eventsSafe := by
  cases q
  case start =>
    simp only [Request.answer, answerStart, State.refuse]
    split
    · exact h
    · split
      · exact h
      · split
        · exact h.completeAll _ _
        · exact h
  case stop =>
    simp only [Request.answer, answerStop, State.refuse]
    split
    · exact h
    · exact h.stop
  case disableStation =>
    simp only [Request.answer, answerDisableStation, State.refuse]
    split
    · exact h
    · exact h.completeAll _ _
  case cancel =>
    simp only [Request.answer, answerCancel, State.refuse]
    split
    · exact h
    · split
      · exact h
      · split
        · exact h
        · exact (h.setTxns _).queueCompletion _
  case ackReports =>
    simp only [Request.answer, answerAckReports, State.refuse]
    split
    · exact h
    · split
      · exact h
      · exact h.dropReports _
  case ackEvent =>
    simp only [Request.answer, answerAckEvent, State.refuse]
    split
    · exact h
    · split
      · exact h
      · next hreport => exact h.release hreport
  case maskEvents =>
    simp only [Request.answer, answerMaskEvents, State.refuse]
    split
    · exact h
    · exact h.maskAll _
  all_goals
    simp only [Request.answer, answerIdentify, answerResetDevice, answerConfigureLine, answerReadLine,
      answerConfigureRound, answerReadRound, answerDefineSegment, answerDeleteSegment, answerUpdateSegment,
      answerReadSegment, answerConfigureStation, answerEnableStation, answerReadStation, answerSubmit,
      answerReadQueue, answerConfigureInbound, answerTakeMessages, answerFetchReports, answerReadEvents, State.refuse]
    repeat' split
    all_goals exact h

/-! ### Every step -/

theorem State.deviceReset_eventsSafe (s : State) : s.deviceReset.eventsSafe := by
  have hsource (src : SourceId) : s.deviceReset.source src = Source.reset := by
    simp [State.source, State.deviceReset, State.reset]
  refine ⟨fun src => ?_, nofun, fun _ => Nat.zero_le _, trivial⟩
  rw [hsource]
  exact Source.released_safe Source.reset

theorem keeps_eventsSafe : Keeps State.eventsSafe where
  now _ _ h := h
  pending _ _ h := h
  hold _ _ h := h
  port _ _ h := h
  reset s _ := s.deviceReset_eventsSafe
  hostError _ _ h := h.occur _ _
  request q b s h := q.answer_eventsSafe b s h
  settle _ h _ _ := h.settleExpired
  round _ missing h _ _ := h.startRound missing
  trig _ h := h.trigEdge
  segment _ h _ _ := h.of_eq (by simp) (by simp)
  opening _ h _ _ := h.openGap
  gapEnd _ h := h
  roundEnd _ h _ _ := h.enterStopped
  fault _ h _ _ := h.enterHalted
  sample _ _ h _ := h
  sent _ f h _ := h.frameSent f
  contend _ h := h.contend
  guard _ h := h.of_eq (by simp) (by simp)
  start _ h := h.of_eq (by simp) (by simp)
  expired _ _ h _ := h.of_eq (by simp) (by simp)
  deliver _ _ _ _ h _ := h.of_eq (by simp) (by simp)
  talk _ _ h _ _ := h.of_eq (by simp) (by simp)
  reclaimed _ _ h _ := h.reclaimed

/-! ### The length of the queue -/

/-- Reports of which no two are EVENT reports of one source: 48 at most besides the completions (R143). -/
theorem length_le_of_countP_isEventOf {l : List Report} (h : ∀ src, l.countP (fun r => r.isEventOf src) ≤ 1) :
    l.length ≤ l.countP (fun r => r.isCompletion) + 48 := by
  have hnodup : (l.filterMap Report.source?).Nodup := List.nodup_iff_count_le_one.mpr fun src => by
    rw [List.count_filterMap]
    refine le_of_eq_of_le (List.countP_congr fun r _ => ?_) (h src)
    rw [beq_iff_eq, Report.source?_eq_some]
  have hevents : l.countP (fun r => !r.isCompletion) ≤ 48 := by
    have hcard := hnodup.length_le_card
    simpa only [List.length_filterMap_eq_countP, Report.source?_isSome, Fintype.card_fin] using hcard
  have hsplit := List.length_eq_countP_add_countP (fun r : Report => r.isCompletion) (l := l)
  simp only [Bool.not_eq_true, Bool.decide_eq_false] at hsplit
  omega

/-- Settles O56: occurrences, completions, and the requests on reports and events are all that write the queue or a
source; and the reports are counted as completions, which the admission count bounds, and EVENT reports, one a source. -/
theorem stepsKeepEventsAndReports : Obligations.StepsKeepEventsAndReports := by
  unfold Obligations.StepsKeepEventsAndReports
  refine ⟨fun _ _ h e => keeps_eventsSafe.step h e, fun s h hadmission => ?_⟩
  obtain ⟨-, -, hone, -⟩ := h
  have hlength := length_le_of_countP_isEventOf hone
  rw [State.admission_eq, State.completions] at hadmission
  omega

end Sys2Proof.Machine
end

section
namespace Sys2Proof.Machine

/-! ## FETCH REPORTS and READ EVENTS (O31) -/

/-! ### The bytes of a report -/

@[simp] theorem Completion.bytes_length (c : Completion) : c.bytes.length = 17 + c.data.length := by
  simp only [Completion.bytes, List.length_append, le1_length, le2_length, le4_length, leBool_length]

@[simp] theorem Event.bytes_length (e : Event) : e.bytes.length = 9 := rfl

/-- A report takes the bytes of its number, its type and its content (R145, R179). -/
theorem Report.size_eq (r : Report) : r.size = r.bytes.length := by
  obtain ⟨seq, body⟩ := r
  cases body with
  | completion c =>
    simp only [Report.size, Report.bytes, List.length_append, le1_length, le2_length, Completion.bytes_length]
    omega
  | event e => rfl

theorem Report.bytes_completion (seq : BitVec 16) (c : Completion) :
    Report.bytes { seq := seq, body := .completion c }
      = le2 seq.toNat ++ le1 1 ++ le2 c.id ++ le1 c.kind.code ++ le1 c.target.code ++ le1 c.channel.val
        ++ le1 c.outcome.code ++ le1 c.attempts ++ le4 c.round.toNat ++ le1 c.flags.byte
        ++ (match c.word with | some w => le1 1 ++ le2 w.toNat | none => [0, 0, 0])
        ++ le2 c.data.length ++ c.data := by
  simp only [Report.bytes, Completion.bytes, List.append_assoc]
  cases c.word <;> rfl

theorem Report.bytes_event (seq : BitVec 16) (e : Event) :
    Report.bytes { seq := seq, body := .event e }
      = le2 seq.toNat ++ le1 2 ++ le1 e.source.val ++ le1 e.count ++ le1 (detailForm e.source)
        ++ le2 (match e.detail with | some d => d.value | none => 0) ++ le4 e.round.toNat := by
  simp only [Report.bytes, Event.bytes, List.append_assoc]
  cases e.detail <;> rfl

/-- The detail forms of a station's five sources, which stand in their order (R148, R179). -/
theorem detailForm_stationSource (i : StationId) :
    detailForm (stationSource i 0) = 1 ∧ detailForm (stationSource i 1) = 2 ∧ detailForm (stationSource i 2) = 2
    ∧ detailForm (stationSource i 3) = 3 ∧ detailForm (stationSource i 4) = 4 := by
  revert i
  decide

/-! ### The reports read -/

/-- The reports a FETCH returns are as many oldest ones as the number and the space allow (R145). -/
theorem fetchCount_longestPrefix (n space : Nat) (l : List Report) :
    ∃ read rest, l = read ++ rest ∧ read.length = fetchCount n space l
      ∧ longestPrefix (fun r => r.bytes.length) n space read rest := by
  fun_induction fetchCount n space l with
  | case1 space l => exact ⟨[], l, rfl, rfl, longestPrefix_zero _ space l⟩
  | case2 n space => exact ⟨[], [], rfl, rfl, longestPrefix_nil _ _ space⟩
  | case3 n space r l hr ih =>
    rw [Report.size_eq] at hr ih
    obtain ⟨read, rest, rfl, hlen, hlongest⟩ := ih
    exact ⟨r :: read, rest, rfl, by rw [Report.size_eq]; exact congrArg (· + 1) hlen, hlongest.cons hr⟩
  | case4 n space r l hr => exact ⟨[], r :: l, rfl, rfl, longestPrefix_of_lt (Report.size_eq r ▸ Nat.lt_of_not_le hr)⟩

/-- FETCH REPORTS of a number in range, the queue split where the count says. -/
theorem answerFetchReports_decoded {b : Bytes} {n : Nat} {s : State} {read rest : List Report}
    (hn : decodeCount 16 b = .ok n) (hq : s.reports.queue = read ++ rest)
    (hk : read.length = fetchCount n fetchSpace s.reports.queue) :
    answerFetchReports b s
      = (s, .ok (le1 read.length ++ le1 s.reports.queue.length ++ read.flatMap Report.bytes)) := by
  rw [answerFetchReports, hn]
  dsimp only
  rw [← hk, hq, List.take_left]

/-- FETCH REPORTS leaves every block but the Host Port as it is (R146). -/
theorem answerFetchReports_fst (b : Bytes) (s : State) : (answerFetchReports b s).1 = s := by
  unfold answerFetchReports
  split <;> rfl

/-! ### The entries of READ EVENTS -/

theorem State.eventEntry_eq (s : State) (src : SourceId) :
    s.eventEntry src
      = le1 ((if (s.source src).latched = true then 1 else 0) + (if (s.source src).masked = true then 2 else 0)
          + (if s.reportQueued src = true then 4 else 0) + (if (s.source src).detail = none then 0 else 8))
        ++ le1 (s.source src).count ++ le2 (detailValue (s.source src).detail)
        ++ le4 (s.source src).lastRound.toNat := by
  rw [State.eventEntry, bitWeight_isSome]
  rfl

theorem answerReadEvents_empty {b : Bytes} (s : State) (hb : b.length = 0) :
    answerReadEvents b s = (s, .ok
      (le1 s.reports.queue.length ++ le2 s.reports.nextSeq.toNat ++ (List.finRange 48).flatMap s.eventEntry)) := by
  rw [answerReadEvents, decodeEmpty_of_eq hb]

theorem exec_readEvents {tag : Byte} {b : Bytes} {s : State} (h : s.takes tag 0x68 b) :
    exec (.readEvents tag b) s = .next (
      if b.length ≠ 0 then s.refused .readEvents tag b .badLength
      else s.answered s .readEvents tag b .ok
        (le1 s.reports.queue.length ++ le2 s.reports.nextSeq.toNat ++ (List.finRange 48).flatMap s.eventEntry)) := by
  split_ifs with hb
  · exact exec_of_refused (q := .readEvents) h (by rw [Request.answer, answerReadEvents, decodeEmpty_of_ne hb])
  · exact exec_of_ok (q := .readEvents) h (answerReadEvents_empty s (not_not.mp hb))

/-- Settles O31: the reports read are as many of the oldest as the number and the reply allow, and each report, each
detail and each entry has its own layout. -/
theorem readingReportsAndEvents : Obligations.ReadingReportsAndEvents := by
  unfold Obligations.ReadingReportsAndEvents
  refine ⟨fun tag b s h => ?_, fun tag b s h => ?_⟩
  · have hrefuse {st : Status} (ha : answerFetchReports b s = s.refuse st) := exec_of_refused (q := .fetchReports) h ha
    refine ⟨fun hb => hrefuse (by rw [answerFetchReports, decodeCount_badLength hb]),
      fun hb hv => hrefuse (by rw [answerFetchReports, decodeCount_badValue hb hv]), fun hb hmin hmax => ?_,
      Report.bytes_completion, Report.bytes_event, fun i => ?_, rfl, rfl, rfl, rfl, rfl, rfl, rfl, rfl,
      ⟨rfl, rfl, rfl, rfl, rfl, rfl, rfl, rfl⟩, fun d => ?_⟩
    · have hdecode : decodeCount 16 b = .ok (u8 b 0) := decodeCount_ok hb (by omega)
      obtain ⟨read, rest, hq, hk, hnumber, hspace, hstop⟩ := fetchCount_longestPrefix (u8 b 0) fetchSpace s.reports.queue
      exact ⟨read.length, read, rest, hq, rfl, hnumber, hspace, hstop,
        exec_of_ok (q := .fetchReports) h (answerFetchReports_decoded hdecode hq hk)⟩
    · obtain ⟨h0, h1, h2, h3, h4⟩ := detailForm_stationSource i
      exact ⟨h0, h1, h2, h3, h4, fun _ => rfl⟩
    · cases d with
      | outcome o => cases o <;> rfl
      | kind k => cases k <;> rfl
      | engine e => cases e <;> rfl
      | frame k => cases k <;> rfl
      | frameError e => cases e <;> rfl
      | _ => rfl
  · have hexec := exec_readEvents h
    rw [funext s.eventEntry_eq] at hexec
    exact hexec

end Sys2Proof.Machine
end

section
namespace Sys2Proof.Machine

/-! ## ACK REPORTS (O32) -/

/-! ### The body and the place of the report -/

theorem decodeAckReports_badLength {b : Bytes} (h : b.length ≠ 2) : decodeAckReports b = .error .badLength := if_pos h

theorem decodeAckReports_ok {b : Bytes} (h : b.length = 2) :
    decodeAckReports b = .ok (BitVec.ofNat 16 (u16 b 0)) := if_neg (not_not.mpr h)

/-- The body's two bytes are a sequence number (R147). -/
theorem toNat_eq_u16_iff (n : BitVec 16) (b : Bytes) : n.toNat = u16 b 0 ↔ n = BitVec.ofNat 16 (u16 b 0) := by
  have hmax := u16_le b 0
  rw [← BitVec.toNat_inj, BitVec.toNat_ofNat, Nat.mod_eq_of_lt (by omega)]

theorem ackCount_eq_none {seq : BitVec 16} {l : List Report} (h : ∀ r ∈ l, r.seq ≠ seq) : ackCount seq l = none := by
  induction l with
  | nil => rfl
  | cons r rest ih =>
    obtain ⟨hr, hrest⟩ := List.forall_mem_cons.mp h
    rw [ackCount, if_neg hr, ih hrest]
    rfl

/-- The first report of the number is counted with those before it (R147). -/
theorem ackCount_append {gone : List Report} {r : Report} (h : ∀ x ∈ gone, x.seq ≠ r.seq) (rest : List Report) :
    ackCount r.seq (gone ++ r :: rest) = some (gone.length + 1) := by
  induction gone with
  | nil => exact if_pos rfl
  | cons x gone ih =>
    obtain ⟨hx, hgone⟩ := List.forall_mem_cons.mp h
    rw [List.cons_append, ackCount, if_neg hx, ih hgone]
    rfl

/-! ### The reports that leave -/

theorem exec_ackReports_badLength {tag : Byte} {b : Bytes} {s : State} (h : s.takes tag 0x61 b) (hb : b.length ≠ 2) :
    exec (.ackReports tag b) s = .next (s.refused .ackReports tag b .badLength) :=
  exec_of_refused (q := .ackReports) h (by rw [Request.answer, answerAckReports, decodeAckReports_badLength hb])

theorem exec_ackReports_notFound {tag : Byte} {b : Bytes} {s : State} (h : s.takes tag 0x61 b) (hb : b.length = 2)
    (hnone : ∀ r ∈ s.reports.queue, r.seq.toNat ≠ u16 b 0) :
    exec (.ackReports tag b) s = .next (s.refused .ackReports tag b .notFound) := by
  have hcount : ackCount (BitVec.ofNat 16 (u16 b 0)) s.reports.queue = none :=
    ackCount_eq_none fun r hr => mt (toNat_eq_u16_iff r.seq b).mpr (hnone r hr)
  refine exec_of_refused (q := .ackReports) h ?_
  rw [Request.answer, answerAckReports, decodeAckReports_ok hb]
  dsimp only
  rw [hcount]

/-- ACK REPORTS of a report in the queue, which leaves with those before it. -/
theorem exec_ackReports {tag : Byte} {b : Bytes} {s : State} {gone rest : List Report} {r : Report}
    (h : s.takes tag 0x61 b) (hb : b.length = 2) (hq : s.reports.queue = gone ++ r :: rest)
    (hr : r.seq.toNat = u16 b 0) (hfirst : ∀ x ∈ gone, x.seq ≠ r.seq) :
    exec (.ackReports tag b) s = .next (s.answered (s.setReports { s.reports with queue := rest }) .ackReports tag b .ok
      (le1 (gone.length + 1) ++ le1 ((gone ++ [r]).countP fun x => x.isCompletion) ++ le1 rest.length)) := by
  have hsplit : s.reports.queue = (gone ++ [r]) ++ rest := by rw [hq, List.append_assoc]; rfl
  have hlength : (gone ++ [r]).length = gone.length + 1 := List.length_append
  have hcount : ackCount (BitVec.ofNat 16 (u16 b 0)) s.reports.queue = some (gone.length + 1) := by
    rw [← (toNat_eq_u16_iff r.seq b).mp hr, hq, ackCount_append hfirst]
  refine exec_of_ok (q := .ackReports) h ?_
  rw [Request.answer, answerAckReports, decodeAckReports_ok hb]
  dsimp only
  rw [hcount]
  dsimp only
  rw [hsplit, List.take_left' hlength, List.drop_left' hlength]

/-- Settles O32: the count of the report named splits the queue, and the admission count loses the completions that
leave. -/
theorem ackReports : Obligations.AckReports := by
  unfold Obligations.AckReports
  refine fun tag b s h => ⟨exec_ackReports_badLength h, exec_ackReports_notFound h, fun gone rest r hb hq hr hfirst =>
    ⟨_, rfl, exec_ackReports h hb hq hr hfirst, ?_, ?_⟩⟩
  · have hgone : s.completions
        = (gone ++ [r]).countP (fun x => x.isCompletion) + rest.countP fun x => x.isCompletion := by
      rw [State.completions, hq, ← List.countP_append, List.append_assoc]
      rfl
    rw [State.admission_eq, hgone]
    show _ = s.txns.countP (fun x => x.isHost) + rest.countP (fun x => x.isCompletion) + _
    omega
  · show (!rest.isEmpty) = false ↔ rest = []
    simp

end Sys2Proof.Machine
end

section
namespace Sys2Proof.Machine

/-! ## ATTN (O36) -/

theorem State.attnLow_iff (s : State) : s.attnLow = true ↔ s.reports.queue ≠ [] := by
  simp [State.attnLow]

theorem State.attnLow_of_empty {s : State} (h : s.reports.queue = []) : s.attnLow = false := by
  rw [State.attnLow, h]
  rfl

theorem State.attnLow_queueReport (s : State) (b : ReportBody) : (s.queueReport b).attnLow = true :=
  (State.attnLow_iff _).mpr (by simp [State.queueReport])

/-- Settles O36: ATTN is read off the queue, which queueing a report fills, the ACK of its last report empties, FETCH
leaves and a device reset empties. -/
theorem attnFollowsTheQueue : Obligations.AttnFollowsTheQueue := by
  unfold Obligations.AttnFollowsTheQueue
  refine fun s => ⟨s.attnLow_iff, s.attnLow_queueReport, fun tag b r h hb hlast hr hfirst => ?_, fun tag b h => ?_, rfl⟩
  · have hq : s.reports.queue = s.reports.queue.dropLast ++ r :: [] :=
      (List.dropLast_append_getLast? r hlast).symm
    exact ⟨_, exec_ackReports h hb hq hr hfirst, State.attnLow_of_empty rfl⟩
  · refine ⟨_, exec_request (q := .fetchReports) h, ?_⟩
    show (answerFetchReports b s).1.attnLow = s.attnLow
    rw [answerFetchReports_fst]

end Sys2Proof.Machine
end

section
namespace Sys2Proof.Machine

/-! ## Occurrences and ACK EVENT (O33, O35) -/

/-- An occurrence writes the Event Table and the Report Queue alone. -/
theorem State.occur_eq (s : State) (src : SourceId) (d : Detail) :
    s.occur src d = (s.setEvents (s.occur src d).events).setReports (s.occur src d).reports := by
  unfold State.occur
  dsimp only
  split <;> rfl

/-- Settles O35: the source's fields, the other sources, and the report of a first occurrence. -/
theorem occurrenceRule : Obligations.OccurrenceRule := by
  unfold Obligations.OccurrenceRule
  rintro s t src d e rfl rfl
  have hreports := s.occur_reports src d
  refine ⟨(s.occur_source src d src).trans (if_pos rfl), fun x hx => (s.occur_source src d x).trans (if_neg hx),
    fun hmute => hreports.trans (if_pos hmute), fun hlatched hmasked => ?_, s.occur_eq src d⟩
  rw [if_neg (by simp [hlatched, hmasked])] at hreports
  have hqueue := congrArg ReportQueue.queue hreports
  refine ⟨hqueue, congrArg ReportQueue.nextSeq hreports, ?_⟩
  rw [State.reportQueued, hqueue, List.any_append]
  simp [numbered, Report.isEventOf]

theorem Source.ackFields_eq (e : Source) :
    e.ackFields = le1 ((if e.latched = true then 1 else 0) + (if e.detail = none then 0 else 2)) ++ le1 e.count
      ++ le2 (detailValue e.detail) ++ le4 e.lastRound.toNat := by
  rw [Source.ackFields, bitWeight_isSome]
  rfl

theorem answerAckEvent_decoded {b : Bytes} {src : SourceId} (s : State) (hsrc : decodeIndex 48 b = .ok src) :
    answerAckEvent b s
      = if s.reportQueued src = true then s.refuse .reportUnread
        else (s.setSource src (s.source src).released, .ok (s.source src).ackFields) := by
  rw [answerAckEvent, hsrc]

/-- Settles O33: the body's checks, the report that is still queued, and the source that is released. -/
theorem ackEvent : Obligations.AckEvent := by
  unfold Obligations.AckEvent
  intro tag b s h
  have hrefuse {st : Status} (ha : answerAckEvent b s = s.refuse st) := exec_of_refused (q := .ackEvent) h ha
  refine ⟨fun hb => hrefuse (by rw [answerAckEvent, decodeIndex_badLength hb]),
    fun hb hv => hrefuse (by rw [answerAckEvent, decodeIndex_badValue hb hv]), ?_⟩
  rintro src e hb hsrc rfl
  have hanswer := answerAckEvent_decoded s (decodeIndex_ok hb hsrc.symm)
  rw [Source.ackFields_eq] at hanswer
  by_cases hreport : s.reportQueued src = true
  · rw [if_pos hreport]
    exact hrefuse (hanswer.trans (if_pos hreport))
  · rw [if_neg hreport]
    exact exec_of_ok (q := .ackEvent) h (hanswer.trans (if_neg hreport))

end Sys2Proof.Machine
end

section
namespace Sys2Proof.Machine

/-! ## MASK EVENTS (O34) -/

/-! ### The body -/

/-- The two bytes of a pair (R178). -/
def maskPairBytes (p : SourceId × Bool) : Bytes := le1 p.1.val ++ le1 (if p.2 = true then 1 else 0)

/-- The body that carries these pairs (R178). -/
def maskBytes (ps : List (SourceId × Bool)) : Bytes := ps.flatMap maskPairBytes

theorem maskBytes_cons (p : SourceId × Bool) (ps : List (SourceId × Bool)) :
    maskBytes (p :: ps)
      = BitVec.ofNat 8 p.1.val :: BitVec.ofNat 8 (if p.2 = true then 1 else 0) :: maskBytes ps := rfl

theorem maskBytes_length (ps : List (SourceId × Bool)) : (maskBytes ps).length = 2 * ps.length := by
  induction ps with
  | nil => rfl
  | cons p ps ih =>
    rw [maskBytes_cons, List.length_cons, List.length_cons, ih, List.length_cons]
    omega

theorem toNat_source (src : SourceId) : (BitVec.ofNat 8 src.val).toNat = src.val := by
  rw [BitVec.toNat_ofNat, Nat.mod_eq_of_lt (by omega)]

theorem toNat_mask (m : Bool) : (BitVec.ofNat 8 (if m = true then 1 else 0)).toNat = if m = true then 1 else 0 := by
  cases m <;> rfl

/-- The body's bytes, pair by pair. -/
theorem u8_maskBytes {ps : List (SourceId × Bool)} {i : Nat} {p : SourceId × Bool} (h : ps[i]? = some p) :
    u8 (maskBytes ps) (2 * i) = p.1.val ∧ u8 (maskBytes ps) (2 * i + 1) = if p.2 = true then 1 else 0 := by
  induction ps generalizing i with
  | nil => cases h
  | cons x ps ih =>
    cases i with
    | zero =>
      cases h
      exact ⟨toNat_source p.1, toNat_mask p.2⟩
    | succ i => exact ih h

/-- Every list of pairs is read back from its body. -/
theorem maskPairs_maskBytes (ps : List (SourceId × Bool)) : maskPairs (maskBytes ps) = some ps := by
  induction ps with
  | nil => rfl
  | cons p ps ih =>
    obtain ⟨src, m⟩ := p
    rw [maskBytes_cons, maskPairs, toNat_source, fin?_val, ih, toNat_mask]
    cases m <;> rfl

/-- Only a list's own body is read as the list. -/
theorem eq_maskBytes_of_maskPairs {b : Bytes} {ps : List (SourceId × Bool)} (h : maskPairs b = some ps) :
    b = maskBytes ps := by
  fun_induction maskPairs b generalizing ps with
  | case1 => cases h; rfl
  | case2 => cases h
  | case3 a m rest src qs hrest hsrc hm ih =>
    cases h
    have hbit : (if (m.toNat == 1) = true then 1 else 0) = m.toNat := by
      simp only [beq_iff_eq]
      split <;> omega
    rw [maskBytes_cons, ← ih hrest, fin?_eq_some.mp hsrc, hbit]
    simp only [BitVec.ofNat_toNat, BitVec.setWidth_eq]
  | case4 => cases h
  | case5 => cases h

theorem decodeMaskEvents_badLength {b : Bytes} (h : b.length % 2 ≠ 0 ∨ b.length = 0 ∨ 96 < b.length) :
    decodeMaskEvents b = .error .badLength := if_pos (by omega)

/-- A body of a right length is refused for a value out of range or a source named twice (R153). -/
theorem decodeMaskEvents_badValue {b : Bytes} (heven : b.length % 2 = 0) (hmin : 2 ≤ b.length) (hmax : b.length ≤ 96)
    (hbad : ∀ ps, b = maskBytes ps → ¬ (ps.map Prod.fst).Nodup) : decodeMaskEvents b = .error .badValue := by
  rw [decodeMaskEvents, if_neg (by omega)]
  cases hps : maskPairs b with
  | none => rfl
  | some ps => exact if_neg (hbad ps (eq_maskBytes_of_maskPairs hps))

/-- A body of different sources is read: there are no more than 48 of them. -/
theorem decodeMaskEvents_ok {ps : List (SourceId × Bool)} (hne : ps ≠ []) (hnodup : (ps.map Prod.fst).Nodup) :
    decodeMaskEvents (maskBytes ps) = .ok ps := by
  have hmax : ps.length ≤ 48 := by simpa using hnodup.length_le_card
  have hmin := List.length_pos_iff.mpr hne
  rw [decodeMaskEvents, maskBytes_length, if_neg (by omega), maskPairs_maskBytes]
  exact if_pos hnodup

/-- A value out of range is in no list's body. -/
theorem maskBytes_inRange {ps : List (SourceId × Bool)} {i : Nat} (hi : 2 * i < (maskBytes ps).length) :
    u8 (maskBytes ps) (2 * i) ≤ 47 ∧ u8 (maskBytes ps) (2 * i + 1) ≤ 1 := by
  rw [maskBytes_length] at hi
  obtain ⟨hsrc, hm⟩ := u8_maskBytes (List.getElem?_eq_getElem (by omega : i < ps.length))
  rw [hsrc, hm]
  exact ⟨by omega, by split <;> omega⟩

/-- A source that two pairs name is twice in the list. -/
theorem not_nodup_of_maskBytes {ps : List (SourceId × Bool)} {i j : Nat} (hij : i < j)
    (hj : 2 * j < (maskBytes ps).length) (h : u8 (maskBytes ps) (2 * i) = u8 (maskBytes ps) (2 * j)) :
    ¬ (ps.map Prod.fst).Nodup := by
  rw [maskBytes_length] at hj
  have hj' : j < ps.length := by omega
  have hi' : i < ps.length := hij.trans hj'
  rw [(u8_maskBytes (List.getElem?_eq_getElem hi')).1, (u8_maskBytes (List.getElem?_eq_getElem hj')).1] at h
  intro hnodup
  have heq : (ps.map Prod.fst)[i]'(by simpa using hi') = (ps.map Prod.fst)[j]'(by simpa using hj') := by
    simpa using Fin.ext h
  exact hij.ne ((hnodup.getElem_inj_iff).mp heq)

/-! ### The pairs -/

/-- One pair in the words of R153. -/
theorem State.maskOne_eq (u : State) (src : SourceId) (m : Bool) :
    u.maskOne src m
      = if m = false ∧ (u.source src).masked = true ∧ (u.source src).latched = true ∧ u.reportQueued src = false then
          (u.setSource src { u.source src with masked := false }).queueReport (.event
            { source := src, count := (u.source src).count, detail := (u.source src).detail
              round := (u.source src).lastRound })
        else u.setSource src { u.source src with masked := m } := by
  unfold State.maskOne
  dsimp only
  split
  · next hreport =>
    obtain ⟨rfl, -⟩ := hreport
    rw [State.eventReport, State.source_setSource, if_pos rfl]
  · rfl

theorem State.maskAll_eq_foldl (s : State) (ps : List (SourceId × Bool)) :
    s.maskAll ps = ps.foldl (fun u p => u.maskOne p.1 p.2) s := by
  induction ps generalizing s with
  | nil => rfl
  | cons p ps ih => exact ih (s.maskOne p.1 p.2)

theorem answerMaskEvents_decoded {b : Bytes} {ps : List (SourceId × Bool)} (s : State)
    (hps : decodeMaskEvents b = .ok ps) :
    answerMaskEvents b s = (s.maskAll ps, .ok (le1 ((s.maskAll ps).reports.queue.length - s.reports.queue.length))) := by
  rw [answerMaskEvents, hps]

/-- Settles O34: the body is read as the one list of pairs that it carries, and each pair is taken by R153. -/
theorem maskEvents : Obligations.MaskEvents := by
  unfold Obligations.MaskEvents
  intro tag b s h
  have hrefuse {st : Status} (ha : answerMaskEvents b s = s.refuse st) := exec_of_refused (q := .maskEvents) h ha
  refine ⟨fun hb => hrefuse (by rw [answerMaskEvents, decodeMaskEvents_badLength hb]),
    fun heven hmin hmax hbad => hrefuse ?_, fun ps hne hnodup hb => ⟨s.maskAll ps, ?_, ?_⟩⟩
  · rw [answerMaskEvents, decodeMaskEvents_badValue heven hmin hmax]
    rintro ps rfl
    obtain ⟨i, hi, hrange⟩ | ⟨i, j, hij, hj, htwice⟩ := hbad
    · have hin := maskBytes_inRange hi
      omega
    · exact not_nodup_of_maskBytes hij hj htwice
  · rw [State.maskAll_eq_foldl]
    simp only [State.maskOne_eq]
  · have hdecode : decodeMaskEvents b = .ok ps := hb ▸ decodeMaskEvents_ok hne hnodup
    exact exec_of_ok (q := .maskEvents) h (answerMaskEvents_decoded s hdecode)

end Sys2Proof.Machine
end

section
namespace Sys2Proof.Machine

/-! ## The Host Port's operations: what a byte, a frame and a leaving reply can do -/

theorem exec_parserByteTaken {s : State} (hheld : s.held = false) (b : Byte) :
    exec (.parserByteTaken b) s = .next (s.hostByte b) :=
  congrArg Host.Outcome.next (State.whenFree_of_free hheld _)

/-! ### The head reply -/

theorem Reply.size_pos (r : Reply) : 0 < r.size := by
  unfold Reply.size
  omega

theorem HostPort.headComplete_of_empty {p : HostPort} (h : p.replies = []) : p.headComplete = false := by
  rw [HostPort.headComplete, h]

theorem HostPort.headComplete_cons {p : HostPort} {r : Reply} {rest : List Reply} (h : p.replies = r :: rest) :
    p.headComplete = decide (r.size ≤ p.outPos) := by
  rw [HostPort.headComplete, h]

theorem HostPort.headComplete_of_le {p : HostPort} {r : Reply} {rest : List Reply} (h : p.replies = r :: rest)
    (hout : r.size ≤ p.outPos) : p.headComplete = true := by
  rw [p.headComplete_cons h, decide_eq_true hout]

theorem HostPort.headComplete_of_lt {p : HostPort} {r : Reply} {rest : List Reply} (h : p.replies = r :: rest)
    (hout : p.outPos < r.size) : p.headComplete = false := by
  rw [p.headComplete_cons h, decide_eq_false (Nat.not_le.mpr hout)]

/-- At the start of a transfer no reply is out in full. -/
theorem HostPort.headComplete_of_outPos_zero {p : HostPort} (h : p.outPos = 0) : p.headComplete = false := by
  cases hr : p.replies with
  | nil => exact headComplete_of_empty hr
  | cons r rest => exact headComplete_of_lt hr (h ▸ r.size_pos)

theorem State.resetPending_of_head {s : State} {r : Reply} {rest : List Reply} (h : s.port.replies = r :: rest)
    (hr : r.bringsReset = true) : s.resetPending = true := by
  simp [State.resetPending, h, hr]

/-- A reply without a device reset leaves, and the next one begins (R163). -/
theorem State.replyLeaves_plain {s : State} {r : Reply} {rest : List Reply} (h : s.port.replies = r :: rest)
    (hr : r.bringsReset = false) :
    s.replyLeaves = s.setPort { s.port with replies := rest, outPos := 0, headSince := s.now } := by
  simp [State.replyLeaves, h, hr]

/-- The reply of RESET DEVICE leaves: the device reset and its hold (R167, R175). -/
theorem State.replyLeaves_reset {s : State} {r : Reply} {rest : List Reply} (h : s.port.replies = r :: rest)
    (hr : r.bringsReset = true) : s.replyLeaves = s.resetByRequest := by
  simp [State.replyLeaves, h, hr]

theorem State.resetByRequest_held (s : State) : s.resetByRequest.held = true := by
  simp [State.resetByRequest, State.held, Hold.held]

@[simp] theorem State.resetByRequest_replies (s : State) : s.resetByRequest.port.replies = [] := rfl

/-! ### What the parser's byte comes to -/

@[simp] theorem State.frameError_port (s : State) (e : FrameError) :
    (s.frameError e).port = { s.port with parser := .hunting } := by
  unfold State.frameError
  split <;> simp

/-- All that a byte can come to in the parser: another phase, an error, or a frame for dispatch (R160). -/
theorem State.parseByte_cases (s : State) (b : Byte) :
    (∃ p, s.parseByte b = s.setPort { s.port with parser := p })
    ∨ (∃ e, s.parseByte b = s.frameError e)
    ∨ s.parseByte b = s.frameComplete.frameError .check
    ∨ ∃ tag kind body, s.parseByte b = s.frameComplete.dispatch tag kind body := by
  unfold State.parseByte
  split
  · split
    · exact Or.inl ⟨_, rfl⟩
    · exact Or.inl ⟨s.port.parser, rfl⟩
  · exact Or.inl ⟨_, rfl⟩
  · unfold State.lengthTaken
    split
    · exact Or.inl ⟨_, rfl⟩
    · exact Or.inr (Or.inl ⟨_, rfl⟩)
  · exact Or.inl ⟨_, rfl⟩
  · exact Or.inl ⟨_, rfl⟩
  · unfold State.secondCheckByte
    split
    · unfold State.judgeHostFrame
      split
      · exact Or.inr (Or.inr (Or.inr ⟨_, _, _, rfl⟩))
      · exact Or.inr (Or.inr (Or.inl rfl))
    · exact Or.inr (Or.inr (Or.inl rfl))

/-- All that dispatch can come to: nothing before a reset, a BACKLOG error, or, with a place in the reply queue, one more
reply, the stored one or the answer of the request's work (R162, R167). -/
theorem State.dispatch_cases (s : State) (tag kind : Byte) (b : Bytes) :
    (s.resetPending = true ∧ s.dispatch tag kind b = s)
    ∨ (s.resetPending = false ∧ s.dispatch tag kind b = s.frameError .backlog)
    ∨ (s.resetPending = false ∧ s.port.replies.length < 4
        ∧ ((∃ r, s.dispatch tag kind b = s.setPort (s.port.append s.now r))
          ∨ ∃ c r, s.dispatch tag kind b = (s.executeRequest kind b).1.replyAndRemember c r)) := by
  unfold State.dispatch
  split
  · next hp => exact Or.inl ⟨hp, rfl⟩
  · next hp =>
    rw [Bool.not_eq_true] at hp
    split
    · exact Or.inr (Or.inl ⟨hp, rfl⟩)
    · next hq =>
      refine Or.inr (Or.inr ⟨hp, Nat.lt_of_not_le hq, ?_⟩)
      split
      · exact Or.inl ⟨_, rfl⟩
      · exact Or.inr ⟨_, _, rfl⟩

theorem State.executeRequest_hold (s : State) (kind : Byte) (b : Bytes) : (s.executeRequest kind b).1.hold = s.hold := by
  unfold State.executeRequest
  split
  · rfl
  · next q _ => exact q.answer_hold b s

/-- From `s` to `t` the part is held as before, and the output of the replies goes on where it was: replies join at most at
the tail, and only up to the four that the queue holds (R163). -/
def State.keepsOutput (s t : State) : Prop :=
  t.hold = s.hold ∧ t.port.mode = s.port.mode ∧ t.port.outPos = s.port.outPos
  ∧ s.port.replies <+: t.port.replies ∧ t.port.replies.length ≤ max 4 s.port.replies.length

theorem State.keepsOutput.trans {s t u : State} (h : s.keepsOutput t) (h' : t.keepsOutput u) : s.keepsOutput u := by
  obtain ⟨hhold, hmode, hout, hpre, hlen⟩ := h
  obtain ⟨hhold', hmode', hout', hpre', hlen'⟩ := h'
  exact ⟨hhold'.trans hhold, hmode'.trans hmode, hout'.trans hout, hpre.trans hpre', by omega⟩

/-- A change of the parser and of the byte's marks leaves the output. -/
theorem State.keepsOutput_of_eq {s t : State} (hhold : t.hold = s.hold) (hmode : t.port.mode = s.port.mode)
    (hout : t.port.outPos = s.port.outPos) (hreplies : t.port.replies = s.port.replies) : s.keepsOutput t :=
  ⟨hhold, hmode, hout, hreplies ▸ List.prefix_rfl, hreplies ▸ Nat.le_max_right _ _⟩

theorem State.keepsOutput_frameError (s : State) (e : FrameError) : s.keepsOutput (s.frameError e) := by
  have hhold : (s.frameError e).hold = s.hold := by
    unfold State.frameError
    split <;> simp
  exact keepsOutput_of_eq hhold (by simp) (by simp) (by simp)

theorem State.keepsOutput_frameComplete (s : State) : s.keepsOutput s.frameComplete := keepsOutput_of_eq rfl rfl rfl rfl

/-- One reply more, where the queue has a place. -/
theorem State.keepsOutput_append {s t : State} {r : Reply} (hlen : s.port.replies.length < 4) (hhold : t.hold = s.hold)
    (hmode : t.port.mode = s.port.mode) (hout : t.port.outPos = s.port.outPos)
    (hreplies : t.port.replies = s.port.replies ++ [r]) : s.keepsOutput t :=
  ⟨hhold, hmode, hout, hreplies ▸ List.prefix_append _ _, by rw [hreplies, List.length_append]; simp; omega⟩

theorem State.keepsOutput_dispatch (s : State) (tag kind : Byte) (b : Bytes) :
    s.keepsOutput (s.dispatch tag kind b) := by
  obtain ⟨-, h⟩ | ⟨-, h⟩ | ⟨-, hlen, ⟨r, h⟩ | ⟨c, r, h⟩⟩ := s.dispatch_cases tag kind b
  · rw [h]; exact keepsOutput_of_eq rfl rfl rfl rfl
  · exact h ▸ s.keepsOutput_frameError _
  · exact h ▸ keepsOutput_append hlen rfl rfl rfl rfl
  · have hport := s.executeRequest_port kind b
    rw [h]
    refine keepsOutput_append (r := r) hlen (s.executeRequest_hold kind b) ?_ ?_ ?_ <;>
      simp [State.replyAndRemember, HostPort.append, hport]

theorem State.keepsOutput_parseByte (s : State) (b : Byte) : s.keepsOutput (s.parseByte b) := by
  obtain ⟨p, h⟩ | ⟨e, h⟩ | h | ⟨tag, kind, body, h⟩ := s.parseByte_cases b
  · exact h ▸ keepsOutput_of_eq rfl rfl rfl rfl
  · exact h ▸ s.keepsOutput_frameError e
  · exact h ▸ s.keepsOutput_frameComplete.trans (s.frameComplete.keepsOutput_frameError _)
  · exact h ▸ s.keepsOutput_frameComplete.trans (s.frameComplete.keepsOutput_dispatch tag kind body)

/-! ### A byte clocked in -/

/-- A byte of the head reply has gone out (R164). -/
def State.byteOut (s : State) : State := s.setPort { s.port with outPos := s.port.outPos + 1 }

/-- The state in which the parser takes a byte, when no reply is out in full: in SPI mode one byte of the head reply has gone
out at the same time (R157, R164). -/
def State.clocked (s : State) : State :=
  if s.port.mode = .spi ∧ s.port.replies ≠ [] then s.byteOut else s

@[simp] theorem State.clocked_now (s : State) : s.clocked.now = s.now := by
  unfold State.clocked
  split <;> rfl

@[simp] theorem State.clocked_held (s : State) : s.clocked.held = s.held := by
  unfold State.clocked
  split <;> rfl

@[simp] theorem State.clocked_parser (s : State) : s.clocked.port.parser = s.port.parser := by
  unfold State.clocked
  split <;> rfl

@[simp] theorem State.clocked_resetPending (s : State) : s.clocked.resetPending = s.resetPending := by
  unfold State.clocked
  split <;> rfl

theorem State.clocked_of_idle {s : State} (h : s.port.mode = .uart ∨ s.port.replies = []) : s.clocked = s := by
  refine if_neg fun ⟨hm, hr⟩ => ?_
  rcases h with h | h
  · rw [h] at hm; cases hm
  · exact hr h

theorem State.clocked_of_reply {s : State} (hm : s.port.mode = .spi) (hr : s.port.replies ≠ []) :
    s.clocked = s.byteOut := if_pos ⟨hm, hr⟩

theorem State.hostByte_spi {s : State} (hm : s.port.mode = .spi) (b : Byte) :
    s.hostByte b = s.clockOut.whenFree fun s => s.byteSeen.parseByte b := by
  rw [State.hostByte, hm]

theorem State.hostByte_uart {s : State} (hm : s.port.mode = .uart) (b : Byte) :
    s.hostByte b = s.whenFree fun s => s.byteSeen.parseByte b := by
  rw [State.hostByte, hm]

theorem State.clockOut_of_incomplete {s : State} (hm : s.port.mode = .spi) (hhead : s.port.headComplete = false) :
    s.clockOut = s.clocked := by
  have hpass := State.passHead_of_incomplete hhead
  by_cases hr : s.port.replies = []
  · rw [State.clocked_of_idle (Or.inr hr)]
    exact (State.clockOut_of_empty (hpass.symm ▸ hr)).trans hpass
  · rw [State.clocked_of_reply hm hr]
    exact (State.clockOut_of_reply (hpass.symm ▸ hr)).trans (by rw [hpass, State.byteOut])

/-- The parser takes the byte once the port's output has moved on. -/
theorem State.hostByte_eq {s : State} (hheld : s.held = false) (hhead : s.port.headComplete = false) (b : Byte) :
    s.hostByte b = s.clocked.byteSeen.parseByte b := by
  have hfree := State.whenFree_of_free (s.clocked_held.trans hheld) fun s => s.byteSeen.parseByte b
  cases hm : s.port.mode with
  | spi => rw [State.hostByte_spi hm, State.clockOut_of_incomplete hm hhead, hfree]
  | uart => rw [State.hostByte_uart hm, ← hfree, State.clocked_of_idle (Or.inl hm)]

/-- A reply without a device reset that is out in full leaves before the byte (R164, log 7). -/
theorem State.hostByte_of_complete {s : State} {r : Reply} {rest : List Reply} (hm : s.port.mode = .spi)
    (h : s.port.replies = r :: rest) (hout : r.size ≤ s.port.outPos) (hr : r.bringsReset = false) (b : Byte) :
    s.hostByte b = (s.setPort { s.port with replies := rest, outPos := 0, headSince := s.now }).hostByte b := by
  have hpass := (State.passHead_of_complete (HostPort.headComplete_of_le h hout)).trans (State.replyLeaves_plain h hr)
  have hidem : s.passHead.passHead = s.passHead :=
    State.passHead_of_incomplete (HostPort.headComplete_of_outPos_zero (hpass ▸ rfl))
  have hclock : s.passHead.clockOut = s.clockOut := by rw [State.clockOut, State.clockOut, hidem]
  rw [← hpass]
  have hm' : s.passHead.port.mode = .spi := hpass ▸ hm
  rw [State.hostByte_spi hm, State.hostByte_spi hm', hclock]

/-- The reply of RESET DEVICE, out in full: the device reset comes first, and the byte is ignored (R167, R175). -/
theorem State.hostByte_of_reset {s : State} {r : Reply} {rest : List Reply} (hm : s.port.mode = .spi)
    (h : s.port.replies = r :: rest) (hout : r.size ≤ s.port.outPos) (hr : r.bringsReset = true) (b : Byte) :
    s.hostByte b = s.resetByRequest := by
  have hpass := (State.passHead_of_complete (HostPort.headComplete_of_le h hout)).trans (State.replyLeaves_reset h hr)
  have hclock : s.clockOut = s.resetByRequest := (State.clockOut_of_empty (hpass ▸ rfl)).trans hpass
  rw [State.hostByte_spi hm, hclock]
  exact State.whenFree_of_held s.resetByRequest_held _

end Sys2Proof.Machine
end

section
namespace Sys2Proof.Machine

/-! ## The reply queue, the settings and the Segment Table (O55) -/

/-! ### The settings -/

/-- The settings of `t` are those of `s`. -/
def State.sameSettings (s t : State) : Prop :=
  t.line.config = s.line.config ∧ t.engine.config = s.engine.config ∧ t.line.contentions = s.line.contentions
  ∧ t.inbound.threshold = s.inbound.threshold

theorem State.configSafe.of_same {s t : State} (h : s.configSafe) (e : s.sameSettings t) : t.configSafe := by
  obtain ⟨hline, hround, hcount, hthreshold⟩ := e
  unfold State.configSafe
  rw [hline, hround, hcount, hthreshold]
  exact h

/-- The contention count is held at 65535 (R20). -/
theorem State.configSafe.countContention {s : State} (h : s.configSafe) (f : SendFrame) :
    (s.countContention f).configSafe := by
  obtain ⟨hline, hround, -, hthreshold⟩ := h
  exact ⟨by simpa using hline, by simpa using hround, by simp [heldSucc_le], by simpa using hthreshold⟩

theorem State.configSafe.contend {s : State} (h : s.configSafe) : s.contend.configSafe := by
  unfold State.contend
  split
  · next f _ =>
    have hmarked : (s.setActivity (.sending { f with contended := true })).configSafe := h
    split
    · exact h
    · split
      · exact (h.countContention f).of_same (by simp [State.sameSettings])
      · exact hmarked.countContention _
  all_goals exact h

/-- No request but the three configurations touches a setting. -/
theorem Request.answer_sameSettings {q : Request} (b : Bytes) (s : State) (h1 : q ≠ .configureLine)
    (h2 : q ≠ .configureRound) (h3 : q ≠ .configureInbound) : s.sameSettings (q.answer b s).1 := by
  unfold State.sameSettings
  cases q
  case configureLine => exact absurd rfl h1
  case configureRound => exact absurd rfl h2
  case configureInbound => exact absurd rfl h3
  case configureStation =>
    simp only [Request.answer, answerConfigureStation, State.refuse]
    split
    · simp
    · split
      · simp
      · split <;> simp
  all_goals
    simp only [Request.answer, answerIdentify, answerResetDevice, answerReadLine, answerReadRound, answerDefineSegment,
      answerDeleteSegment, answerUpdateSegment, answerReadSegment, answerStart, answerStop, answerEnableStation,
      answerDisableStation, answerReadStation, answerSubmit, answerCancel, answerReadQueue, answerTakeMessages,
      answerFetchReports, answerAckReports, answerReadEvents, answerAckEvent, answerMaskEvents, State.refuse]
    repeat' split
    all_goals simp [State.setTable]

theorem decodeConfigureLine_inRange {b : Bytes} {c : LineConfig} (h : decodeConfigureLine b = .ok c) :
    c.inRange = true := by
  unfold decodeConfigureLine at h
  split_ifs at h with hlen hv
  obtain ⟨-, -, -, hr⟩ := hv
  cases h
  exact hr

theorem decodeConfigureRound_inRange {b : Bytes} {c : RoundConfig} (h : decodeConfigureRound b = .ok c) :
    c.inRange = true := by
  unfold decodeConfigureRound at h
  split_ifs at h with hlen hv
  obtain ⟨-, hr⟩ := hv
  cases h
  exact hr

theorem decodeCount_inRange {top : Nat} {b : Bytes} {n : Nat} (h : decodeCount top b = .ok n) : 1 ≤ n ∧ n ≤ top := by
  unfold decodeCount at h
  split_ifs at h with hlen hv
  cases h
  exact hv

theorem State.configSafe.configureLine {s : State} (h : s.configSafe) (b : Bytes) :
    (answerConfigureLine b s).1.configSafe := by
  unfold answerConfigureLine
  split
  · exact h
  · next c hc =>
    split
    · obtain ⟨-, hrest⟩ := h
      exact ⟨decodeConfigureLine_inRange hc, hrest⟩
    · exact h

theorem State.configSafe.configureRound {s : State} (h : s.configSafe) (b : Bytes) :
    (answerConfigureRound b s).1.configSafe := by
  unfold answerConfigureRound
  split
  · exact h
  · next c hc =>
    split
    · obtain ⟨hline, -, hrest⟩ := h
      exact ⟨hline, decodeConfigureRound_inRange hc, hrest⟩
    · exact h

theorem State.configSafe.configureInbound {s : State} (h : s.configSafe) (b : Bytes) :
    (answerConfigureInbound b s).1.configSafe := by
  unfold answerConfigureInbound
  split
  · exact h
  · next n hn =>
    obtain ⟨hline, hround, hcount, -⟩ := h
    exact ⟨hline, hround, hcount, decodeCount_inRange hn⟩

theorem Request.answer_configSafe (q : Request) (b : Bytes) (s : State) (h : s.configSafe) :
    (q.answer b s).1.configSafe := by
  cases q
  case configureLine => exact h.configureLine b
  case configureRound => exact h.configureRound b
  case configureInbound => exact h.configureInbound b
  all_goals exact h.of_same (Request.answer_sameSettings b s nofun nofun nofun)

theorem State.deviceReset_configSafe (s : State) : s.deviceReset.configSafe := by
  have hreset : State.reset.configSafe := by unfold State.configSafe; decide
  exact hreset

theorem keeps_configSafe : Keeps State.configSafe where
  now _ _ h := h
  pending _ _ h := h
  hold _ _ h := h
  port _ _ h := h
  reset s _ := s.deviceReset_configSafe
  hostError _ _ h := h.of_same (by simp [State.sameSettings])
  request q b s h := q.answer_configSafe b s h
  settle _ h _ _ := h.of_same (by simp [State.sameSettings])
  round _ _ h _ _ := h.of_same (by simp [State.sameSettings])
  trig _ h := h.of_same (by simp [State.sameSettings])
  segment _ h _ _ := h.of_same (by simp [State.sameSettings])
  opening _ h _ _ := h.of_same (by simp [State.sameSettings])
  gapEnd _ h := h
  roundEnd _ h _ _ := h.of_same (by simp [State.sameSettings])
  fault _ h _ _ := h.of_same (by simp [State.sameSettings])
  sample _ _ h _ := h
  sent _ _ h _ := h.of_same (by simp [State.sameSettings])
  contend _ h := h.contend
  guard _ h := h.of_same (by simp [State.sameSettings])
  start _ h := h.of_same (by simp [State.sameSettings])
  expired _ _ h _ := h.of_same (by simp [State.sameSettings])
  deliver _ _ _ _ h _ := h.of_same (by simp [State.sameSettings])
  talk _ _ h _ _ := h.of_same (by simp [State.sameSettings])
  reclaimed _ _ h _ := h.of_same (by simp [State.sameSettings])

/-! ### The Segment Table -/

/-- An operation on each record that keeps index and length, and the record's bounds, keeps the table's. -/
theorem tableSafe.map {table : List Segment} (h : tableSafe table) {f : Segment → Segment}
    (hindex : ∀ g, (f g).index = g.index) (hsafe : ∀ g ∈ table, (f g).safe ∧ (f g).len = g.len) :
    tableSafe (table.map f) := by
  obtain ⟨hsorted, -, hbytes⟩ := h
  refine ⟨?_, ?_, ?_⟩
  · simpa only [List.pairwise_map, hindex] using hsorted
  · intro x hx
    obtain ⟨g, hg, rfl⟩ := List.mem_map.mp hx
    exact (hsafe g hg).1
  · have hlen : (table.map f).map Segment.len = table.map Segment.len := by
      rw [List.map_map]
      exact List.map_congr_left fun g hg => (hsafe g hg).2
    rw [tableBytes, hlen]
    exact hbytes

theorem tableSafe.filter {table : List Segment} (h : tableSafe table) (p : Segment → Bool) :
    tableSafe (table.filter p) := by
  obtain ⟨hsorted, hsafe, hbytes⟩ := h
  refine ⟨hsorted.filter p, fun g hg => hsafe g (List.mem_of_mem_filter hg), ?_⟩
  exact Nat.le_trans (List.Sublist.sum_le_sum (List.filter_sublist.map _) fun _ _ => Nat.zero_le _) hbytes

/-- A payload of the record's length takes effect with age 0 (R43, R45). -/
theorem Segment.safe.activate {g : Segment} (h : g.safe) {p : Bytes} (hp : p.length = g.len) :
    ({ g with active := p, staged := none, age := 0 } : Segment).safe := by
  obtain ⟨hmin, hmax, -, hfresh, -⟩ := h
  exact ⟨hmin.trans_eq hp.symm, hp.trans_le hmax, by simp, hfresh, Nat.zero_le _⟩

theorem Segment.commit_index (g : Segment) : g.commit.index = g.index := by
  unfold Segment.commit
  split <;> rfl

/-- Commit and ageing keep the record's bounds and its length (R45). -/
theorem Segment.safe.commit {g : Segment} (h : g.safe) : g.commit.safe ∧ g.commit.len = g.len := by
  obtain ⟨hmin, hmax, hstaged, hfresh, -⟩ := id h
  unfold Segment.commit
  split
  · next p hp => exact ⟨h.activate (hstaged p hp), hstaged p hp⟩
  · next hp => exact ⟨⟨hmin, hmax, by simp [hp], hfresh, Nat.min_le_left _ _⟩, rfl⟩

theorem tableSafe.commit {table : List Segment} (h : tableSafe table) : tableSafe (table.map Segment.commit) := by
  obtain ⟨-, hsafe, -⟩ := id h
  exact h.map Segment.commit_index fun g hg => (hsafe g hg).commit

/-- A DEFINE SEGMENT body in range spells a record in its bounds (R41). -/
theorem decodeDefineSegment_safe {b : Bytes} {g : Segment} (h : decodeDefineSegment b = .ok g) : g.safe := by
  unfold decodeDefineSegment at h
  split_ifs at h with hlen
  split at h
  · cases h
    have hfresh := u8_le b 3
    have hdrop : (b.drop 4).length = b.length - 4 := List.length_drop
    exact ⟨by rw [Segment.len, hdrop]; omega, by rw [Segment.len, hdrop]; omega, by simp, hfresh, Nat.zero_le _⟩
  · cases h

/-- A refreshed payload of the record's own length keeps its bounds (R43). -/
theorem Segment.safe.refreshed {g : Segment} (h : g.safe) (atRest : Bool) {p : Bytes} (hp : p.length = g.len) :
    (g.refreshed atRest p).safe ∧ (g.refreshed atRest p).len = g.len := by
  unfold Segment.refreshed
  split
  · exact ⟨h.activate hp, hp⟩
  · obtain ⟨hmin, hmax, -, hfresh, hage⟩ := h
    exact ⟨⟨hmin, hmax, by rintro x ⟨⟩; exact hp, hfresh, hage⟩, rfl⟩

theorem Segment.refreshed_index (g : Segment) (atRest : Bool) (p : Bytes) :
    (g.refreshed atRest p).index = g.index := by
  unfold Segment.refreshed
  split <;> rfl

/-- In index order an index names one record. -/
theorem eq_of_index_eq {table : List Segment} (h : table.Pairwise fun a b => a.index < b.index) {g x : Segment}
    (hg : g ∈ table) (hx : x ∈ table) (e : x.index = g.index) : x = g := by
  have hnodup : (table.map Segment.index).Nodup := List.pairwise_map.mpr (h.imp ne_of_lt)
  exact List.inj_on_of_nodup_map hnodup hx hg e

theorem tableSafe.defineSegment {s : State} (h : tableSafe s.engine.table) (b : Bytes) :
    tableSafe (answerDefineSegment b s).1.engine.table := by
  cases hb : decodeDefineSegment b with
  | error e => rwa [answerDefineSegment, hb]
  | ok g =>
    rw [answerDefineSegment_decoded s hb]
    split_ifs with hrest hfull
    · exact h
    · exact h
    · obtain ⟨hsorted, hsafe, -⟩ := h
      refine ⟨pairwise_insertSegment g hsorted, fun x hx => ?_, Nat.le_of_not_lt hfull⟩
      obtain rfl | ⟨hx, -⟩ := (mem_insertSegment hsorted).mp hx
      · exact decodeDefineSegment_safe hb
      · exact hsafe x hx

theorem tableSafe.deleteSegment {s : State} (h : tableSafe s.engine.table) (b : Bytes) :
    tableSafe (answerDeleteSegment b s).1.engine.table := by
  cases hb : decodeIndex 32 b with
  | error e => rwa [answerDeleteSegment, hb]
  | ok k =>
    rw [answerDeleteSegment_decoded s hb]
    split_ifs
    · exact h
    · exact h
    · exact h.filter _

theorem tableSafe.updateSegment {s : State} (h : tableSafe s.engine.table) (b : Bytes) :
    tableSafe (answerUpdateSegment b s).1.engine.table := by
  cases hb : decodeUpdateSegment b with
  | error e => rwa [answerUpdateSegment, hb]
  | ok kp =>
    obtain ⟨k, p⟩ := kp
    cases hk : s.engine.segment k with
    | none => simpa only [answerUpdateSegment, hb, hk, State.refuse] using h
    | some g =>
      rw [answerUpdateSegment_found hb hk]
      split_ifs with hlen
      · exact h
      · obtain ⟨hsorted, hsafe, -⟩ := id h
        have hg : g ∈ s.engine.table := List.mem_of_find?_eq_some hk
        have hindex : g.index = k := by simpa using List.find?_some hk
        refine h.map (fun x => ?_) fun x hx => ?_
        · split_ifs
          · exact x.refreshed_index _ p
          · rfl
        · split_ifs with hxk
          · obtain rfl := eq_of_index_eq hsorted hg hx (hxk.trans hindex.symm)
            exact (hsafe x hx).refreshed _ (not_not.mp hlen)
          · exact ⟨hsafe x hx, rfl⟩

/-! ### What leaves the Segment Table -/

theorem State.enterStopped_table (s : State) : s.enterStopped.engine.table = s.engine.table := by
  simp [State.enterStopped, Engine.endRun]

theorem State.enterHalted_table (s : State) : s.enterHalted.engine.table = s.engine.table := by
  simp [State.enterHalted, Engine.endRun]

theorem State.stop_table (s : State) : s.stop.engine.table = s.engine.table := by
  unfold State.stop State.stopRunning
  repeat' split
  all_goals simp [State.enterStopped_table, State.clearFault]

theorem State.trigEdge_table (s : State) : s.trigEdge.engine.table = s.engine.table := by
  unfold State.trigEdge State.acceptEdge
  repeat' split
  all_goals simp

theorem State.sendSegment_table (s : State) : s.sendSegment.engine.table = s.engine.table := by
  unfold State.sendSegment
  repeat' split
  all_goals simp

theorem State.openGap_table (s : State) : s.openGap.engine.table = s.engine.table := by
  unfold State.openGap
  split <;> simp

/-- A round start commits and ages the table (R28 step 5). -/
theorem State.startRound_table (s : State) (missing : Bool) :
    (s.startRound missing).engine.table = s.engine.table.map Segment.commit := by
  rw [State.startRound_eq]
  simp [State.layRound, Engine.atRoundStart]

/-- No request but DEFINE, DELETE and UPDATE SEGMENT touches the Segment Table. -/
theorem Request.answer_table {q : Request} (b : Bytes) (s : State) (h1 : q ≠ .defineSegment)
    (h2 : q ≠ .deleteSegment) (h3 : q ≠ .updateSegment) : (q.answer b s).1.engine.table = s.engine.table := by
  cases q
  case defineSegment => exact absurd rfl h1
  case deleteSegment => exact absurd rfl h2
  case updateSegment => exact absurd rfl h3
  case configureStation =>
    simp only [Request.answer, answerConfigureStation, State.refuse]
    split
    · rfl
    · split
      · rfl
      · split <;> simp
  all_goals
    simp only [Request.answer, answerIdentify, answerResetDevice, answerConfigureLine, answerReadLine,
      answerConfigureRound, answerReadRound, answerReadSegment, answerStart, answerStop, answerEnableStation,
      answerDisableStation, answerReadStation, answerSubmit, answerCancel, answerReadQueue, answerConfigureInbound,
      answerTakeMessages, answerFetchReports, answerAckReports, answerReadEvents, answerAckEvent, answerMaskEvents,
      State.refuse]
    repeat' split
    all_goals simp [State.stop_table, State.beginRun]

theorem tableSafe_of_eq {s t : State} (h : tableSafe s.engine.table) (e : t.engine.table = s.engine.table) :
    tableSafe t.engine.table := e.symm ▸ h

theorem Request.answer_tableSafe (q : Request) (b : Bytes) (s : State) (h : tableSafe s.engine.table) :
    tableSafe (q.answer b s).1.engine.table := by
  cases q
  case defineSegment => exact h.defineSegment b
  case deleteSegment => exact h.deleteSegment b
  case updateSegment => exact h.updateSegment b
  all_goals exact tableSafe_of_eq h (Request.answer_table b s nofun nofun nofun)

theorem State.startRound_tableSafe {s : State} (h : tableSafe s.engine.table) (missing : Bool) :
    tableSafe (s.startRound missing).engine.table := by
  rw [State.startRound_table]
  exact h.commit

theorem State.settleExpired_tableSafe {s : State} (h : tableSafe s.engine.table) :
    tableSafe s.settleExpired.engine.table := by
  unfold State.settleExpired
  split
  · exact State.startRound_tableSafe h _
  · exact h

theorem tableSafe_nil : tableSafe [] := ⟨List.Pairwise.nil, by simp, Nat.zero_le _⟩

theorem keeps_tableSafe : Keeps fun s => tableSafe s.engine.table where
  now _ _ h := h
  pending _ _ h := h
  hold _ _ h := h
  port _ _ h := h
  reset _ _ := tableSafe_nil
  hostError _ _ h := by simpa using h
  request q b s h := q.answer_tableSafe b s h
  settle _ h _ _ := State.settleExpired_tableSafe h
  round _ missing h _ _ := State.startRound_tableSafe h missing
  trig s h := by rwa [s.trigEdge_table]
  segment s h _ _ := by rwa [s.sendSegment_table]
  opening s h _ _ := by rwa [s.openGap_table]
  gapEnd _ h := h
  roundEnd s h _ _ := by rwa [s.enterStopped_table]
  fault s h _ _ := by rwa [s.enterHalted_table]
  sample _ _ h _ := h
  sent _ _ h _ := by simpa using h
  contend _ h := by simpa using h
  guard _ h := by simpa using h
  start _ h := by simpa using h
  expired _ _ h _ := by simpa using h
  deliver _ _ _ _ h _ := by simpa using h
  talk _ _ h _ _ := by simpa using h
  reclaimed _ _ h _ := by simpa using h

/-! ### The reply queue -/

theorem State.keepsOutput.portSafe {s t : State} (k : s.keepsOutput t) (h : s.portSafe) : t.portSafe := by
  obtain ⟨-, -, -, -, hlen⟩ := k
  unfold State.portSafe at h ⊢
  omega

theorem State.portSafe.of_port {s t : State} (h : s.portSafe) (e : t.port = s.port) : t.portSafe := by
  unfold State.portSafe
  rw [e]
  exact h

theorem State.deviceReset_portSafe (s : State) : s.deviceReset.portSafe := Nat.zero_le _

theorem State.portSafe.replyLeaves {s : State} (h : s.portSafe) : s.replyLeaves.portSafe := by
  unfold State.replyLeaves
  split
  · exact h
  · next r rest hr =>
    split
    · exact s.deviceReset_portSafe
    · have hlen : (r :: rest).length ≤ 4 := hr ▸ h
      exact Nat.le_of_succ_le hlen

theorem State.portSafe.passHead {s : State} (h : s.portSafe) : s.passHead.portSafe := by
  unfold State.passHead
  split
  · exact h.replyLeaves
  · exact h

theorem State.portSafe.clockOut {s : State} (h : s.portSafe) : s.clockOut.portSafe := by
  unfold State.clockOut
  split <;> exact h.passHead

theorem State.portSafe.parseByte {s : State} (h : s.portSafe) (b : Byte) : (s.byteSeen.parseByte b).portSafe :=
  (s.byteSeen.keepsOutput_parseByte b).portSafe h

theorem State.portSafe.hostByte {s : State} (h : s.portSafe) (b : Byte) : (s.hostByte b).portSafe := by
  cases hm : s.port.mode with
  | spi =>
    rw [State.hostByte_spi hm]
    exact State.whenFree_keeps h.clockOut fun _ => h.clockOut.parseByte b
  | uart =>
    rw [State.hostByte_uart hm]
    exact State.whenFree_keeps h fun _ => h.parseByte b

theorem State.portSafe.clockFill (n : Nat) : ∀ {s : State}, s.portSafe → (s.clockFill n).portSafe := by
  induction n with
  | zero => exact fun h => h
  | succ n ih => exact fun h => ih (h.hostByte _)

theorem State.portSafe.csRise {s : State} (h : s.portSafe) : s.csRise.portSafe := by
  have hidle : (s.passHead.setPort { s.passHead.port with csLow := false, outPos := 0 }).portSafe := h.passHead
  unfold State.csRise
  dsimp only
  split
  · exact hidle
  · exact (State.keepsOutput_frameError _ _).portSafe hidle

theorem State.portSafe.goodFrame {s : State} (h : s.portSafe) (tag kind : Byte) (b : Bytes) :
    (s.goodFrame tag kind b).portSafe :=
  State.whenFree_keeps h fun _ =>
    (s.keepsOutput_frameComplete.trans (s.frameComplete.keepsOutput_dispatch tag kind b)).portSafe h

theorem State.portSafe.judgeHostFrame {s : State} (h : s.portSafe) (tag kind : Byte) (b : Bytes) (chk : BitVec 16) :
    (s.judgeHostFrame tag kind b chk).portSafe := by
  unfold State.judgeHostFrame
  split
  · exact (s.keepsOutput_frameComplete.trans (s.frameComplete.keepsOutput_dispatch tag kind b)).portSafe h
  · exact (s.keepsOutput_frameComplete.trans (s.frameComplete.keepsOutput_frameError _)).portSafe h

theorem State.portSafe.lengthTaken {s : State} (h : s.portSafe) (n : Nat) : (s.lengthTaken n).portSafe := by
  unfold State.lengthTaken
  split
  · exact h
  · exact (s.keepsOutput_frameError _).portSafe h

/-- A release empties the queue, or leaves the part held as it is (R175). -/
theorem State.portSafe.endCause {s : State} (h : s.portSafe) (c : ReleaseCause) (modeHigh baudHigh : Bool) :
    (s.endCause c modeHigh baudHigh).portSafe := by
  unfold State.endCause
  dsimp only
  split
  · exact h
  · exact Nat.zero_le _

/-- An event outside the Host Port leaves the reply queue. -/
theorem State.portSafe.event {s : State} (h : s.portSafe) {d : Option Time} {f : State → State}
    (hf : ∀ u, (f u).port = u.port) : (s.whenFree fun s => s.atMoment d f).portSafe :=
  State.whenFree_keeps h fun _ => State.atMoment_keeps h fun m _ => State.portSafe.of_port (s := s.upTo m) h (hf _)

theorem exec_portSafe {s t : State} {c : Instr} (h : s.portSafe) (e : exec c s = .next t) : t.portSafe := by
  cases c
  case check tag kind body chk =>
    cases e; exact State.whenFree_keeps h fun _ => h.judgeHostFrame tag kind body chk
  case oversize len =>
    cases e; exact State.whenFree_keeps h fun _ => State.portSafe.lengthTaken (s := s.byteSeen) h _
  case timeout =>
    cases e
    exact State.whenFree_keeps h fun _ => State.atMoment_keeps h fun m _ =>
      ((s.upTo m).keepsOutput_frameError _).portSafe h
  case csRise =>
    cases e
    exact State.whenFree_keeps h fun _ => by
      split
      · exact h.csRise
      · exact h
  case replyLeavesQueue =>
    cases e
    exact State.whenFree_keeps h fun _ => by
      split
      · exact State.atMoment_keeps h fun m _ => State.portSafe.replyLeaves (s := s.upTo m) h
      · split
        · exact h
        · exact (State.portSafe.clockFill _ h).passHead
  case parserByteTaken b => cases e; exact State.whenFree_keeps h fun _ => h.hostByte b
  case resetPinLow => cases e; exact s.deviceReset_portSafe
  case powerOn => cases e; exact s.deviceReset_portSafe
  case resetRelease cause m b =>
    cases e
    split
    · exact h
    · split
      · exact h.endCause _ m b
      · exact h.endCause _ m b
      · exact State.atMoment_keeps h fun d _ => State.portSafe.endCause (s := s.upTo d) h _ m b
  case trigEdge => cases e; exact State.whenFree_keeps h fun _ => h.of_port (by simp)
  case stationStart low =>
    cases e
    refine State.whenFree_keeps h fun _ => ?_
    split
    · exact h.of_port (by simp)
    · exact h
  case lineFault levels =>
    cases e
    refine State.whenFree_keeps h fun _ => ?_
    split
    · refine State.atMoment_keeps h fun d _ => State.portSafe.of_port (s := s.upTo d) h ?_
      unfold State.monitored
      split <;> simp
    · exact h
  case decodedFrame ts =>
    cases e
    refine State.whenFree_keeps h fun _ => ?_
    dsimp only
    split
    · exact h
    · exact State.atMoment_keeps h fun d _ => State.portSafe.of_port (s := s.upTo d) h (by simp)
  case frameSent =>
    cases e
    refine h.event fun u => ?_
    split <;> simp
  case settleTimerExpiry => cases e; exact h.event fun u => u.settleExpired_port
  case roundStart => cases e; exact h.event fun u => u.startRound_port _
  case segmentFrame => cases e; exact h.event fun u => u.sendSegment_port
  case gapOpening => cases e; exact h.event fun u => u.openGap_port
  case gapEnd => cases e; exact h.event fun u => u.closeGap_port
  case roundEndStopping => cases e; exact h.event fun u => u.enterStopped_port
  case contention bit high => cases e; exact h.event fun u => u.contend_port
  case guardEnd => cases e; exact h.event fun u => u.guardEnded_port
  case responseTimerExpiry => cases e; exact h.event fun u => u.responseExpired_port
  case talkLimitExpiry => cases e; exact h.event fun u => u.talkExpired_port
  case reclaimEnd => cases e; exact h.event fun u => u.reclaimed_port
  all_goals cases e; exact h.goodFrame _ _ _

theorem step_portSafe {s t : State} (h : s.portSafe) (e : step s = .next t) : t.portSafe := by
  unfold step at e
  split at e
  · unfold State.idle at e
    split at e
    · exact exec_portSafe h e
    · cases e; exact h
  · next c rest _ => exact exec_portSafe (s := s.setPending rest) h e

/-- Settles O55: the reply queue by what each Host Port operation does to it, the settings and the table each by the
operations that write them. -/
theorem stepsKeepPortSettingsAndTable : Obligations.StepsKeepPortSettingsAndTable := by
  unfold Obligations.StepsKeepPortSettingsAndTable
  exact fun _ _ e => ⟨fun h => step_portSafe h e, fun h => keeps_configSafe.step h e, fun h => keeps_tableSafe.step h e⟩

end Sys2Proof.Machine
end

section
namespace Sys2Proof.Machine

/-! ## Good frames and their fates (O6, O7) -/

/-- Settles O6: a frame that is taken is dispatched to its block, whose work leaves the port to the reply. -/
theorem requestIsExecutedAndAnswered : Obligations.RequestIsExecutedAndAnswered := by
  unfold Obligations.RequestIsExecutedAndAnswered
  exact fun q _ body s h => ⟨exec_request h, q.answer_port body s⟩

theorem Request.ofCode_none {kind : Byte} (h : ∀ q : Request, q.code ≠ kind) : Request.ofCode kind = none := by
  cases hq : Request.ofCode kind with
  | none => rfl
  | some q => exact absurd (Request.code_of_ofCode hq) (h q)

theorem State.executeRequest_unknown {kind : Byte} (h : ∀ q : Request, q.code ≠ kind) (s : State) (b : Bytes) :
    s.executeRequest kind b = (s, .refusal .unknownRequest) := by
  rw [State.executeRequest, Request.ofCode_none h]

/-- The command of a request whose code this is comes to the good frame itself. -/
theorem exec_command_of_code {q : Request} {kind : Byte} (h : q.code = kind) (tag : Byte) (body : Bytes) (s : State) :
    exec (q.command tag body) s = .next (s.goodFrame tag kind body) := h ▸ exec_command q tag body s

theorem State.repeatOf_eq_some {s : State} {m : RepeatRecord} {tag kind : Byte} {body : Bytes}
    (h : s.port.repeatRecord = some m) (htag : m.tag = tag) (hcheck : m.check = frameCheck tag kind body) :
    s.repeatOf tag kind body = some m.reply := by
  simp [State.repeatOf, h, htag, hcheck]

/-- A reply joins the queue of a port that has just completed a frame. -/
theorem HostPort.append_received (p : HostPort) (now : Time) (r : Reply) :
    (p.received now).append now r
      = { p.received now with
          replies := p.replies ++ [r]
          headSince := if p.replies = [] then now else p.headSince } := by
  simp only [HostPort.append, HostPort.received, List.isEmpty_iff]

/-- Settles O7: each fate is that of the good frame, whatever command brings it. -/
theorem fatesOfAGoodFrame : Obligations.FatesOfAGoodFrame := by
  unfold Obligations.FatesOfAGoodFrame
  refine ⟨fun tag kind body s hkind h => ?_, fun tag kind body s m hheld hpending hlen hrecord htag hcheck => ?_,
    fun tag kind body s hheld => ⟨fun hpending hlen => ?_, fun hpending => ?_⟩⟩
  · refine congrArg Host.Outcome.next ((State.goodFrame_executed h).trans ?_)
    rw [State.executeRequest_unknown hkind]
    rfl
  · refine ⟨congrArg Host.Outcome.next ?_, fun q hq => exec_command_of_code hq tag body s⟩
    rw [State.goodFrame_repeated hheld hpending hlen (State.repeatOf_eq_some hrecord htag hcheck),
      HostPort.append_received]
  · exact ⟨congrArg Host.Outcome.next (State.goodFrame_backlog hheld hpending hlen),
      fun q hq => exec_command_of_code hq tag body s⟩
  · exact ⟨congrArg Host.Outcome.next (State.goodFrame_discarded hheld hpending),
      fun q hq => exec_command_of_code hq tag body s⟩

end Sys2Proof.Machine
end

section
namespace Sys2Proof.Machine

/-! ## Parser errors (O8) -/

/-- The frame is discarded, with its occurrence unless a RESET DEVICE reply is pending (R161, R167). -/
theorem State.frameError_eq {s : State} {failed : State → FrameError → State}
    (hfailed : ∀ u e, failed u e = if s.resetPending = true then u else u.occur srcFrameError (.frameError e))
    (u : State) (hu : u.resetPending = s.resetPending) (e : FrameError) :
    u.frameError e = failed (u.setPort { u.port with parser := .hunting }) e := by
  rw [hfailed, State.frameError, hu]

theorem State.lengthTaken_oversize {len : Nat} (h : len < 2 ∨ 1030 < len) (s : State) :
    s.lengthTaken len = s.frameError .oversize := if_neg (by omega)

theorem State.lengthTaken_inRange {len : Nat} (hmin : 2 ≤ len) (hmax : len ≤ 1030) (s : State) :
    s.lengthTaken len = s.setPort { s.port with parser := .content len [] } := if_pos ⟨hmin, hmax⟩

theorem State.judgeHostFrame_bad {tag kind : Byte} {body : Bytes} {chk : BitVec 16} (h : chk ≠ frameCheck tag kind body)
    (s : State) : s.judgeHostFrame tag kind body chk = s.frameComplete.frameError .check := if_neg h

/-- CS rises outside a frame (R164). -/
theorem State.csRise_outside {s : State} (h : s.passHead.port.parser = .hunting) :
    s.csRise = s.passHead.setPort { s.passHead.port with csLow := false, outPos := 0 } := if_pos h

/-- CS rises inside a frame, which is CUT (R161). -/
theorem State.csRise_inside {s : State} (h : s.passHead.port.parser ≠ .hunting) :
    s.csRise = (s.passHead.setPort { s.passHead.port with csLow := false, outPos := 0 }).frameError .cut := if_neg h

theorem exec_csRise_spi {s : State} (hheld : s.held = false) (hm : s.port.mode = .spi) :
    exec .csRise s = .next s.csRise := by
  refine congrArg Host.Outcome.next ((State.whenFree_of_free hheld _).trans ?_)
  rw [hm]

theorem exec_csRise_uart {s : State} (hheld : s.held = false) (hm : s.port.mode = .uart) : exec .csRise s = .next s := by
  refine congrArg Host.Outcome.next ((State.whenFree_of_free hheld _).trans ?_)
  rw [hm]

theorem exec_timeout {s : State} (hheld : s.held = false) :
    exec .timeout s = .next (s.atMoment (s.dueAt .timeout) fun s => s.frameError .timeout) :=
  congrArg Host.Outcome.next (State.whenFree_of_free hheld _)

theorem State.dueAt_timeout {s : State} (hm : s.port.mode = .uart) (hp : s.port.parser ≠ .hunting) :
    s.dueAt .timeout = some (s.port.lastByteAt + micros 2000) := if_pos ⟨hm, hp⟩

theorem State.dueAt_timeout_none {s : State} (hp : s.port.parser = .hunting) : s.dueAt .timeout = none :=
  if_neg fun ⟨_, h⟩ => h hp

/-- Settles O8: each error comes to `State.frameError`, which puts the parser back and makes the occurrence. -/
theorem parserErrorsDiscardTheFrame : Obligations.ParserErrorsDiscardTheFrame := by
  unfold Obligations.ParserErrorsDiscardTheFrame
  intro s failed hheld hfailed
  have herror := State.frameError_eq hfailed
  refine ⟨fun tag kind body chk hchk => ?_, fun len hlen => ?_, fun hm hp hcomes => ?_, fun hp => ?_,
    fun hm hp hhead => ?_⟩
  · refine congrArg Host.Outcome.next ((State.whenFree_of_free hheld _).trans ?_)
    exact (s.judgeHostFrame_bad hchk).trans (herror s.frameComplete rfl _)
  · refine congrArg Host.Outcome.next ((State.whenFree_of_free hheld _).trans ?_)
    exact (s.byteSeen.lengthTaken_oversize hlen).trans (herror s.byteSeen rfl _)
  · rw [exec_timeout hheld, State.dueAt_timeout hm hp, State.atMoment_comes hcomes]
    exact congrArg Host.Outcome.next (herror (s.upTo _) rfl _)
  · rw [exec_timeout hheld, State.dueAt_timeout_none hp, State.atMoment_none]
  · have hpass := State.passHead_of_incomplete hhead
    rw [exec_csRise_spi hheld hm, State.csRise_inside (hpass.symm ▸ hp), hpass]
    exact congrArg Host.Outcome.next (herror (s.setPort { s.port with csLow := false, outPos := 0 }) rfl _)

end Sys2Proof.Machine
end

section
namespace Sys2Proof.Machine

/-! ## The parser's bytes (O10) -/

/-! ### The pins -/

/-- The data bits lie between the start bit and the stop bit (R158). -/
theorem uartReceived_append (b : Byte) (stop : Bool) : uartReceived (BitVec.ofBool stop ++ b ++ 0#1) = b := by
  refine BitVec.eq_of_getLsbD_eq fun i hi => ?_
  simp only [uartReceived, BitVec.getLsbD_extractLsb', BitVec.getLsbD_append]
  simp [hi, Nat.add_comm 1 i]

theorem spiBits_getElem? (b : Byte) {i : Nat} (hi : i < 8) : (spiBits b)[i]? = some (b.getLsbD (7 - i)) := by
  simp [spiBits, hi]

/-- The number that the first `n` bits make, most significant first. -/
theorem foldl_spiBits (b : Byte) (n : Nat) (hn : n ≤ 8) :
    ((List.range n).map fun i => b.getLsbD (7 - i)).foldl (fun n b => 2 * n + b.toNat) 0 = b.toNat / 2 ^ (8 - n) := by
  induction n with
  | zero => exact (Nat.div_eq_of_lt b.isLt).symm
  | succ n ih =>
    have hpow : 2 ^ (8 - n) = 2 ^ (7 - n) * 2 := by rw [← pow_succ]; congr 1; omega
    have hlast : 8 - (n + 1) = 7 - n := by omega
    have hbit : (b.getLsbD (7 - n)).toNat = b.toNat / 2 ^ (7 - n) % 2 := Nat.toNat_testBit ..
    rw [List.range_succ, List.map_append, List.foldl_append, ih (by omega), hpow, hlast, ← Nat.div_div_eq_div_mul]
    simp only [List.map_cons, List.map_nil, List.foldl_cons, List.foldl_nil, hbit]
    exact Nat.div_add_mod _ 2

theorem spiReceived_spiBits (b : Byte) : spiReceived (spiBits b) = some b := by
  have hlen : (spiBits b).length = 8 := by simp [spiBits]
  rw [spiReceived, if_pos hlen, spiBits, foldl_spiBits b 8 le_rfl, Nat.sub_self, pow_zero, Nat.div_one,
    BitVec.ofNat_toNat, BitVec.setWidth_eq]

/-! ### The table of the parser's phases (R160) -/

section
variable {s : State} {b : Byte}

theorem State.parseByte_noStart (h : s.port.parser = .hunting) (hb : b ≠ 0xA5) : s.parseByte b = s := by
  simp only [State.parseByte, h, if_neg hb]

theorem State.parseByte_start (h : s.port.parser = .hunting) :
    s.parseByte 0xA5 = s.setPort { s.port with parser := .length none } := by
  simp only [State.parseByte, h, if_true]

theorem State.parseByte_length (h : s.port.parser = .length none) :
    s.parseByte b = s.setPort { s.port with parser := .length (some b) } := by
  simp only [State.parseByte, h]

theorem State.parseByte_secondLength {low : Byte} (h : s.port.parser = .length (some low)) :
    s.parseByte b = s.lengthTaken (low.toNat + 256 * b.toNat) := by
  simp only [State.parseByte, h]

theorem State.parseByte_content {len : Nat} {got : Bytes} (h : s.port.parser = .content len got)
    (hlen : got.length + 1 < len) : s.parseByte b = s.setPort { s.port with parser := .content len (got ++ [b]) } := by
  have hmore : ¬ len ≤ (got ++ [b]).length := by simp; omega
  simp only [State.parseByte, h, contentTaken, if_neg hmore]

theorem State.parseByte_lastContent {len : Nat} {got : Bytes} (h : s.port.parser = .content len got)
    (hlen : len ≤ got.length + 1) : s.parseByte b = s.setPort { s.port with parser := .check (got ++ [b]) none } := by
  have hall : len ≤ (got ++ [b]).length := by simpa using hlen
  simp only [State.parseByte, h, contentTaken, if_pos hall]

theorem State.parseByte_check {content : Bytes} (h : s.port.parser = .check content none) :
    s.parseByte b = s.setPort { s.port with parser := .check content (some b) } := by
  simp only [State.parseByte, h]

theorem State.parseByte_secondCheck {tag kind low : Byte} {body : Bytes}
    (h : s.port.parser = .check (tag :: kind :: body) (some low)) :
    s.parseByte b = s.judgeHostFrame tag kind body (b ++ low) := by
  simp only [State.parseByte, h, State.secondCheckByte]

end

theorem State.judgeHostFrame_good {tag kind : Byte} {body : Bytes} {chk : BitVec 16} (h : chk = frameCheck tag kind body)
    (s : State) : s.judgeHostFrame tag kind body chk = s.frameComplete.dispatch tag kind body := if_pos h

/-- A byte that has been seen is no matter to the frame that it completes. -/
theorem State.dispatch_byteSeen {s : State} (hheld : s.held = false) (tag kind : Byte) (body : Bytes) :
    s.byteSeen.frameComplete.dispatch tag kind body = s.goodFrame tag kind body :=
  (State.whenFree_of_free hheld fun s => s.frameComplete.dispatch tag kind body).symm

/-- Settles O10: the pins' bytes, and the phases one by one in the state in which the parser takes the byte. -/
theorem parserTakesOneByte : Obligations.ParserTakesOneByte := by
  unfold Obligations.ParserTakesOneByte
  refine ⟨fun b => ⟨uartReceived_append b, fun i hi => spiBits_getElem? b hi, spiReceived_spiBits b⟩,
    fun bits hbits => if_neg hbits.ne, ?_⟩
  intro s u b failed hheld hhead hfailed hu
  have hu : u = s.clocked := hu
  have hnow : u.now = s.now := hu ▸ s.clocked_now
  have hparser : u.byteSeen.port.parser = s.port.parser := hu ▸ s.clocked_parser
  have hfree : u.held = false := hu ▸ s.clocked_held.trans hheld
  have herror := State.frameError_eq hfailed
  have hpending : u.resetPending = s.resetPending := hu ▸ s.clocked_resetPending
  have hexec {t : State} (h : u.byteSeen.parseByte b = t) : exec (.parserByteTaken b) s = .next t := by
    rw [exec_parserByteTaken hheld, State.hostByte_eq hheld hhead, ← hu, h]
  rw [← hnow]
  refine ⟨fun hp hb => ?_, fun hp hb => ?_, fun hp => ?_, fun low hp hmin hmax => ?_, fun low hp hlen => ?_,
    fun len got hp hlen => ?_, fun len got hp hlen => ?_, fun content hp => ?_, fun tag kind body low hp hchk => ?_,
    fun tag kind body low hp hchk => ?_⟩ <;> refine hexec ?_ <;> rw [← hparser] at hp
  · exact State.parseByte_noStart hp hb
  · exact hb ▸ State.parseByte_start hp
  · exact State.parseByte_length hp
  · exact (State.parseByte_secondLength hp).trans (State.lengthTaken_inRange hmin hmax _)
  · exact (State.parseByte_secondLength hp).trans
      ((State.lengthTaken_oversize hlen _).trans (herror u.byteSeen hpending _))
  · exact State.parseByte_content hp hlen
  · exact State.parseByte_lastContent hp hlen
  · exact State.parseByte_check hp
  · exact (State.parseByte_secondCheck hp).trans
      ((State.judgeHostFrame_good hchk _).trans (State.dispatch_byteSeen hfree tag kind body))
  · exact (State.parseByte_secondCheck hp).trans
      ((State.judgeHostFrame_bad hchk _).trans (herror u.byteSeen.frameComplete hpending _))

end Sys2Proof.Machine
end

section
namespace Sys2Proof.Machine

/-! ## The bytes of a host frame (O11) -/

theorem execAll_cons {c : Instr} {s t : State} (h : exec c s = .next t) (cs : List Instr) :
    execAll (c :: cs) s = execAll cs t := by
  rw [execAll, h]

/-- The bytes of a two-byte field, as the parser reads a length. -/
theorem toNat_le2 {n : Nat} (h : n < 65536) :
    (BitVec.ofNat 8 n).toNat + 256 * (BitVec.ofNat 8 (n / 256)).toNat = n := by
  simp only [BitVec.toNat_ofNat]
  omega

/-- The bytes of a two-byte field, as the parser reads a check. -/
theorem append_le2 (c : BitVec 16) : BitVec.ofNat 8 (c.toNat / 256) ++ BitVec.ofNat 8 c.toNat = c := by
  refine BitVec.eq_of_toNat_eq ?_
  have hlow : (BitVec.ofNat 8 c.toNat).toNat < 2 ^ 8 := BitVec.isLt _
  have hword := toNat_le2 c.isLt
  rw [BitVec.toNat_append, ← Nat.shiftLeft_add_eq_or_of_lt hlow, Nat.shiftLeft_eq]
  omega

/-- No byte that the host sends moves a reply on: UART mode, or no reply to send. -/
def State.outputIdle (s : State) : Prop := s.port.mode = .uart ∨ s.port.replies = []

/-- The state once a byte, now, has brought the parser into this phase. -/
def State.inPhase (s : State) (p : Parser) : State := s.setPort { s.port.seen s.now with parser := p }

theorem State.hostByte_of_idle {s : State} (hheld : s.held = false) (hidle : s.outputIdle) (b : Byte) :
    s.hostByte b = s.byteSeen.parseByte b := by
  obtain hm | hr := id hidle
  · rw [State.hostByte_uart hm]
    exact State.whenFree_of_free hheld _
  · rw [State.hostByte_eq hheld (HostPort.headComplete_of_empty hr), State.clocked_of_idle hidle]

section
variable {s : State} (hheld : s.held = false) (hidle : s.outputIdle)
include hheld hidle

/-- A byte inside a frame moves the parser on from phase to phase. -/
theorem execAll_inPhase {p q : Parser} {b : Byte}
    (h : (s.inPhase p).parseByte b = (s.inPhase p).setPort { (s.inPhase p).port with parser := q }) (cs : List Instr) :
    execAll (.parserByteTaken b :: cs) (s.inPhase p) = execAll cs (s.inPhase q) := by
  refine execAll_cons ?_ cs
  rw [exec_parserByteTaken (s := s.inPhase p) hheld, State.hostByte_of_idle (s := s.inPhase p) hheld hidle]
  exact congrArg Host.Outcome.next h

/-- The content's bytes, up to the last one (R160). -/
theorem execAll_content (len : Nat) (cs : List Instr) : ∀ (rest got : Bytes), rest ≠ [] →
    got.length + rest.length = len →
    execAll (rest.map .parserByteTaken ++ cs) (s.inPhase (.content len got))
      = execAll cs (s.inPhase (.check (got ++ rest) none))
  | [], _, hne, _ => absurd rfl hne
  | [b], got, _, hlen => execAll_inPhase hheld hidle (State.parseByte_lastContent rfl (Nat.le_of_eq hlen.symm)) cs
  | b :: c :: rest, got, _, hlen => by
    have hmore : got.length + 1 < len := by rw [← hlen]; simp
    have ih := execAll_content len cs (c :: rest) (got ++ [b]) (by simp) (by simp at hlen ⊢; omega)
    rw [List.append_assoc, List.singleton_append] at ih
    exact (execAll_inPhase hheld hidle (State.parseByte_content rfl hmore) _).trans ih

/-- The start byte (R160). -/
theorem execAll_start (hp : s.port.parser = .hunting) (cs : List Instr) :
    execAll (.parserByteTaken 0xA5 :: cs) s = execAll cs (s.inPhase (.length none)) := by
  refine execAll_cons ?_ cs
  rw [exec_parserByteTaken hheld, State.hostByte_of_idle hheld hidle]
  exact congrArg Host.Outcome.next (State.parseByte_start (s := s.byteSeen) hp)

/-- The two length bytes (R160). -/
theorem execAll_length {len : Nat} (hmin : 2 ≤ len) (hmax : len ≤ 1030) (cs : List Instr) :
    execAll ((le2 len).map .parserByteTaken ++ cs) (s.inPhase (.length none))
      = execAll cs (s.inPhase (.content len [])) := by
  refine (execAll_inPhase hheld hidle (State.parseByte_length rfl) _).trans (execAll_inPhase hheld hidle ?_ cs)
  exact (State.parseByte_secondLength rfl).trans
    ((congrArg _ (toNat_le2 (by omega))).trans (State.lengthTaken_inRange hmin hmax _))

/-- The two check bytes of a good frame (R160). -/
theorem execAll_check (tag kind : Byte) (body : Bytes) :
    execAll ((le2 (frameCheck tag kind body).toNat).map .parserByteTaken)
        (s.inPhase (.check (tag :: kind :: body) none)) = .next (s.goodFrame tag kind body) := by
  refine (execAll_inPhase hheld hidle (State.parseByte_check rfl) _).trans (execAll_cons ?_ [])
  rw [exec_parserByteTaken (s := s.inPhase _) hheld, State.hostByte_of_idle (s := s.inPhase _) hheld hidle]
  refine congrArg Host.Outcome.next ?_
  exact (State.parseByte_secondCheck rfl).trans
    ((State.judgeHostFrame_good (append_le2 _) _).trans (State.dispatch_byteSeen hheld tag kind body))

theorem execAll_frameBytes (hp : s.port.parser = .hunting) (tag kind : Byte) {body : Bytes} (hbody : body.length ≤ 1028) :
    execAll ((frameBytes tag kind body).map .parserByteTaken) s = .next (s.goodFrame tag kind body) := by
  have hsplit : (frameBytes tag kind body).map Instr.parserByteTaken
      = .parserByteTaken 0xA5 :: ((le2 (body.length + 2)).map .parserByteTaken
          ++ ((tag :: kind :: body).map .parserByteTaken
            ++ (le2 (frameCheck tag kind body).toNat).map .parserByteTaken)) := by
    simp [frameBytes]
  have hlen : ([] : Bytes).length + (tag :: kind :: body).length = body.length + 2 := by simp
  rw [hsplit, execAll_start hheld hidle hp, execAll_length hheld hidle (by omega) (by omega),
    execAll_content hheld hidle _ _ _ _ (by simp) hlen]
  exact execAll_check hheld hidle tag kind body

end

/-- Settles O11: start, length, content and check bytes each bring the parser into the next phase. -/
theorem bytesOfAFrameAreTheRequest : Obligations.BytesOfAFrameAreTheRequest := by
  unfold Obligations.BytesOfAFrameAreTheRequest
  intro s tag kind body hheld hp hidle hbody
  have hframe := execAll_frameBytes hheld hidle hp tag kind hbody
  exact ⟨hframe, fun q hq => hframe.trans (exec_command_of_code hq tag body s).symm⟩

end Sys2Proof.Machine
end

section
namespace Sys2Proof.Machine

/-! ## How a reply leaves (O5, O9) -/

theorem exec_replyLeavesQueue_uart {s : State} {r : Reply} {rest : List Reply} (hheld : s.held = false)
    (hm : s.port.mode = .uart) (h : s.port.replies = r :: rest)
    (hcomes : s.comes (s.port.headSince + s.port.txDuration r)) :
    exec .replyLeavesQueue s = .next (s.upTo (s.port.headSince + s.port.txDuration r)).replyLeaves := by
  have hdue : s.dueAt .replyLeaves = some (s.port.headSince + s.port.txDuration r) := by
    simp only [State.dueAt, h, hm]
  refine congrArg Host.Outcome.next ((State.whenFree_of_free hheld _).trans ?_)
  simp only [hm, hdue]
  exact State.atMoment_comes hcomes _

/-- The host clocks the rest of the head reply out with fill (R164, log 7). -/
theorem exec_replyLeavesQueue_spi {s : State} {r : Reply} {rest : List Reply} (hheld : s.held = false)
    (hm : s.port.mode = .spi) (h : s.port.replies = r :: rest) :
    exec .replyLeavesQueue s = .next (s.clockFill (r.size - s.port.outPos)).passHead := by
  refine congrArg Host.Outcome.next ((State.whenFree_of_free hheld _).trans ?_)
  simp only [hm, h]

/-- A byte of the head reply goes out while the parser takes a byte (R157). -/
theorem State.hostByte_of_head {s : State} {r : Reply} {rest : List Reply} (hheld : s.held = false)
    (hm : s.port.mode = .spi) (h : s.port.replies = r :: rest) (hout : s.port.outPos < r.size) (b : Byte) :
    s.hostByte b = s.byteOut.byteSeen.parseByte b := by
  rw [State.hostByte_eq hheld (HostPort.headComplete_of_lt h hout), State.clocked_of_reply hm (by simp [h])]

/-- One byte of fill, and then the rest. -/
theorem State.clockFill_rest {s : State} {r : Reply} (hout : s.port.outPos < r.size) :
    s.clockFill (r.size - s.port.outPos) = (s.hostByte 0xFF).clockFill (r.size - (s.port.outPos + 1)) := by
  have hn : r.size - s.port.outPos = r.size - (s.port.outPos + 1) + 1 := by omega
  rw [hn, State.clockFill_succ]

end Sys2Proof.Machine
end

section
namespace Sys2Proof.Machine

/-! ## RESET DEVICE (O5) -/

/-- An accepted RESET DEVICE leaves its reply pending (R167). -/
theorem State.resetPending_of_answered (s : State) (tag : Byte) (body : Bytes) :
    (s.answered s .resetDevice tag body .ok []).resetPending = true := by
  have hreply : (firstReply tag Request.resetDevice.code .ok []).bringsReset = true := by
    simp [firstReply, Reply.bringsReset]
  simp [State.answered, State.resetPending, HostPort.answering, hreply]

theorem State.resetByRequest_inReset (s : State) : s.resetByRequest.inReset := rfl

theorem Reply.bringsReset_of {r : Reply} (hkind : r.kind = 0x82) (hstatus : r.status = .ok) : r.bringsReset = true := by
  rw [Reply.bringsReset, hkind, hstatus]
  rfl

theorem State.frameError_beforeReset (s : State) (h : s.resetPending = true) (e : FrameError) :
    s.frameError e = s.setPort { s.port with parser := .hunting } := by
  simp [State.frameError, h]

/-- While a RESET DEVICE reply is pending a byte does nothing outside the parser (R167). -/
theorem State.parseByte_pending {s : State} (h : s.resetPending = true) (b : Byte) :
    ∃ p, s.byteSeen.parseByte b = s.inPhase p := by
  obtain ⟨p, hb⟩ | ⟨e, hb⟩ | hb | ⟨tag, kind, body, hb⟩ := s.byteSeen.parseByte_cases b
  · exact ⟨p, hb⟩
  · exact ⟨.hunting, hb.trans (s.byteSeen.frameError_beforeReset h e)⟩
  · exact ⟨.hunting, hb.trans (s.byteSeen.frameComplete.frameError_beforeReset h _)⟩
  · exact ⟨.hunting, hb.trans (if_pos h)⟩

/-- The rest of a RESET DEVICE reply is clocked out, and the device reset follows (R167, R174). -/
theorem State.clockFill_reset {r : Reply} (hr : r.bringsReset = true) (n : Nat) : ∀ {s : State} {rest : List Reply},
    s.held = false → s.port.mode = .spi → s.port.replies = r :: rest → n = r.size - s.port.outPos →
    (s.clockFill n).passHead = s.resetByRequest := by
  induction n with
  | zero =>
    intro s rest _ _ h hn
    have hcomplete := HostPort.headComplete_of_le h (Nat.le_of_sub_eq_zero hn.symm)
    exact (State.passHead_of_complete hcomplete).trans (State.replyLeaves_reset h hr)
  | succ n ih =>
    intro s rest hheld hm h hn
    have hpending := State.resetPending_of_head h hr
    obtain ⟨p, hp⟩ := State.parseByte_pending (s := s.byteOut) hpending 0xFF
    have hbyte := (State.hostByte_of_head hheld hm h (by omega) 0xFF).trans hp
    rw [State.clockFill_succ, hbyte]
    have hn' : n = r.size - (s.port.outPos + 1) := by omega
    exact ih (s := s.byteOut.inPhase p) hheld hm h hn'

/-- Settles O5: the reply's last byte on TXD, or with the fill that clocks it out on SDO, brings `State.resetByRequest`. -/
theorem resetDeviceWaitsForItsReply : Obligations.ResetDeviceWaitsForItsReply := by
  unfold Obligations.ResetDeviceWaitsForItsReply
  refine ⟨fun s tag body h => ⟨?_, fun hbody => ?_⟩, fun s r rest hheld h hkind hstatus => ?_⟩
  · rintro rfl
    exact ⟨_, exec_of_ok (q := .resetDevice) h rfl, rfl, s.resetPending_of_answered tag []⟩
  · have hlen : body.length ≠ 0 := fun e => hbody (List.length_eq_zero_iff.mp e)
    exact exec_of_refused (q := .resetDevice) h (by rw [Request.answer, answerResetDevice, decodeEmpty_of_ne hlen])
  · have hr := Reply.bringsReset_of hkind hstatus
    refine ⟨fun hm hcomes => ?_, fun hm => ?_⟩
    · refine ⟨_, exec_replyLeavesQueue_uart hheld hm h hcomes, ?_⟩
      rw [State.replyLeaves_reset (s := s.upTo _) h hr]
      exact ⟨State.resetByRequest_inReset _, rfl, rfl, rfl⟩
    · refine ⟨_, exec_replyLeavesQueue_spi hheld hm h, ?_⟩
      rw [State.clockFill_reset hr _ hheld hm h rfl]
      exact ⟨State.resetByRequest_inReset _, rfl, rfl, rfl⟩

end Sys2Proof.Machine
end

section
namespace Sys2Proof.Machine

/-! ## Replies on the pins (O9) -/

/-! ### The queue -/

/-- With the parser HUNTING the fill leaves no trace but the last byte's (R160). -/
theorem State.clockFill_hunting {r : Reply} (hr : r.bringsReset = false) (n : Nat) : ∀ {s : State} {rest : List Reply},
    s.held = false → s.port.mode = .spi → s.port.replies = r :: rest → s.port.parser = .hunting →
    s.port.outPos + (n + 1) = r.size →
    (s.clockFill (n + 1)).passHead
      = s.setPort { s.port.seen s.now with replies := rest, outPos := 0, headSince := s.now } := by
  induction n with
  | zero =>
    intro s rest hheld hm h hp hn
    have hbyte := (State.hostByte_of_head hheld hm h (by omega) 0xFF).trans (State.parseByte_noStart hp (by decide))
    have hcomplete : s.byteOut.byteSeen.port.headComplete = true :=
      HostPort.headComplete_of_le (p := s.byteOut.byteSeen.port) h (Nat.le_of_eq hn.symm)
    rw [State.clockFill_succ, State.clockFill_zero, hbyte, State.passHead_of_complete hcomplete]
    exact State.replyLeaves_plain (s := s.byteOut.byteSeen) h hr
  | succ n ih =>
    intro s rest hheld hm h hp hn
    have hbyte := (State.hostByte_of_head hheld hm h (by omega) 0xFF).trans (State.parseByte_noStart hp (by decide))
    rw [State.clockFill_succ, hbyte]
    have hn' : s.port.outPos + 1 + (n + 1) = r.size := by omega
    exact ih (s := s.byteOut.byteSeen) hheld hm h hp hn'

/-- A byte of fill before the command is one byte of the command's own fill (log 7). -/
theorem exec_replyLeavesQueue_after_fill {s : State} {r : Reply} {rest : List Reply} (hheld : s.held = false)
    (hm : s.port.mode = .spi) (h : s.port.replies = r :: rest) (hout : s.port.outPos < r.size) :
    exec .replyLeavesQueue s = exec .replyLeavesQueue (s.hostByte 0xFF) := by
  have hkept := s.byteOut.byteSeen.keepsOutput_parseByte 0xFF
  rw [← State.hostByte_of_head hheld hm h hout] at hkept
  obtain ⟨hhold, hmode, hpos, ⟨more, hmore⟩, -⟩ := hkept
  have hreplies : (s.hostByte 0xFF).port.replies = r :: (rest ++ more) := by
    rw [← hmore]
    exact congrArg (· ++ more) h
  have hfree : (s.hostByte 0xFF).held = false := by rw [State.held, hhold]; exact hheld
  rw [exec_replyLeavesQueue_spi hheld hm h, exec_replyLeavesQueue_spi hfree (hmode.trans hm) hreplies, hpos,
    State.clockFill_rest hout]
  rfl

/-! ### The bytes and levels that go out -/

/-- A reply's envelope, byte by byte (R159, R168). -/
theorem replyFrame_eq (r : Reply) :
    replyFrame r = 0xA5 :: (le2 (4 + r.fields.length)
      ++ [r.tag, r.kind, BitVec.ofNat 8 r.status.code, if r.repeated = true then 1 else 0] ++ r.fields
      ++ le2 (crc16 (le2 (4 + r.fields.length)
        ++ [r.tag, r.kind, BitVec.ofNat 8 r.status.code, if r.repeated = true then 1 else 0]
        ++ r.fields)).toNat) := by
  have hbody : r.body = [BitVec.ofNat 8 r.status.code, if r.repeated = true then 1 else 0] ++ r.fields := by
    rw [Reply.body, leBool_eq]; rfl
  have hlen : r.body.length + 2 = 4 + r.fields.length := by
    rw [hbody, List.length_append]
    simp only [List.length_cons, List.length_nil]
    omega
  rw [replyFrame, frameBytes, frameCheck, hlen, hbody]
  simp only [List.append_assoc, List.cons_append, List.nil_append]
  rfl

theorem replyFrame_length (r : Reply) : (replyFrame r).length = r.size := by
  simp only [replyFrame, frameBytes, Reply.size, List.length_cons, List.length_append, le2_length]
  omega

section
variable {s : State} (hheld : s.held = false) (hm : s.port.mode = .spi) (hpass : s.passHead.held = false)
include hheld hm hpass

theorem State.sdoByte_idle (h : s.passHead.port.replies = []) : s.sdoByte true = some 0xFF := by
  rw [State.sdoByte, if_pos ⟨rfl, hm, hheld, hpass⟩, h]

theorem State.sdoByte_cons {r : Reply} {rest : List Reply} (h : s.passHead.port.replies = r :: rest) :
    s.sdoByte true = some ((replyFrame r).getD s.passHead.port.outPos 0xFF) := by
  rw [State.sdoByte, if_pos ⟨rfl, hm, hheld, hpass⟩, h]

end

/-- SDO with a reply on its way out: the byte at the output position (R164). -/
theorem State.sdoByte_of_head {s : State} {r : Reply} {rest : List Reply} (hheld : s.held = false)
    (hm : s.port.mode = .spi) (h : s.port.replies = r :: rest) (hout : s.port.outPos < r.size) :
    s.sdoByte true = (replyFrame r)[s.port.outPos]? := by
  have hpass := State.passHead_of_incomplete (HostPort.headComplete_of_lt h hout)
  have hlt : s.port.outPos < (replyFrame r).length := (replyFrame_length r).symm ▸ hout
  rw [State.sdoByte_cons hheld hm (hpass.symm ▸ hheld) (hpass.symm ▸ h), hpass]
  simp [hlt]

theorem State.sdoByte_of_empty {s : State} (hheld : s.held = false) (hm : s.port.mode = .spi)
    (h : s.port.replies = []) : s.sdoByte true = some 0xFF := by
  have hpass := State.passHead_of_incomplete (HostPort.headComplete_of_empty h)
  exact State.sdoByte_idle hheld hm (hpass.symm ▸ hheld) (hpass.symm ▸ h)

/-- SDO behind a reply that is out in full: the start of the next one, 0xFF with none, and nothing in a device reset (R163,
R164, R167). -/
theorem State.sdoByte_of_complete {s : State} {r : Reply} {rest : List Reply} (hheld : s.held = false)
    (hm : s.port.mode = .spi) (h : s.port.replies = r :: rest) (hout : r.size ≤ s.port.outPos) :
    s.sdoByte true = if r.bringsReset = true then none else if rest = [] then some 0xFF else some 0xA5 := by
  have hpass := State.passHead_of_complete (HostPort.headComplete_of_le h hout)
  by_cases hr : r.bringsReset = true
  · have hreset : s.passHead.held = true := by
      rw [hpass, State.replyLeaves_reset h hr, State.resetByRequest_held]
    rw [if_pos hr, State.sdoByte, if_neg (by simp [hreset])]
  · rw [State.replyLeaves_plain h (by simpa using hr)] at hpass
    have hfree : s.passHead.held = false := hpass.symm ▸ hheld
    have hreplies : s.passHead.port.replies = rest := by rw [hpass, State.setPort_port]
    have hpos : s.passHead.port.outPos = 0 := by rw [hpass, State.setPort_port]
    rw [if_neg hr]
    cases rest with
    | nil => exact State.sdoByte_idle hheld hm hfree hreplies
    | cons r' rest =>
      rw [State.sdoByte_cons hheld hm hfree hreplies, hpos, if_neg (List.cons_ne_nil r' rest)]
      rfl

/-- A byte on TXD: its start bit, its bits from the least significant on, its stop bit (R158). -/
theorem getLsbD_dataByteTime (b : Byte) {i : Nat} (hi : i < 10) :
    (dataByteTime b).getLsbD i = if i = 0 then false else if i = 9 then true else b.getLsbD (i - 1) := by
  interval_cases i <;> simp [dataByteTime, BitVec.getLsbD_of_ge]

theorem State.txd_of_empty {s : State} (hheld : s.held = false) (hm : s.port.mode = .uart) (h : s.port.replies = []) :
    s.txd = some true := by
  simp [State.txd, hheld, hm, h]

theorem State.txd_of_head {s : State} {r : Reply} {rest : List Reply} (hheld : s.held = false)
    (hm : s.port.mode = .uart) (h : s.port.replies = r :: rest) :
    s.txd = some (txdLevel r (s.port.txPeriods (s.now - s.port.headSince))) := by
  simp [State.txd, hheld, hm, h]

theorem txdLevel_eq (r : Reply) (n : Nat) :
    txdLevel r n = match (replyFrame r)[n / 10]? with
      | none => true
      | some b => if n % 10 = 0 then false else if n % 10 = 9 then true else b.getLsbD (n % 10 - 1) := by
  unfold txdLevel
  cases (replyFrame r)[n / 10]? with
  | none => rfl
  | some b => exact getLsbD_dataByteTime b (Nat.mod_lt _ (by decide))

/-- Settles O9: the head reply leaves by `State.replyLeaves` in each way that the modes allow, and the pins carry the bytes of
`replyFrame`. -/
theorem repliesLeaveFromTheHead : Obligations.RepliesLeaveFromTheHead := by
  unfold Obligations.RepliesLeaveFromTheHead
  refine ⟨fun s hheld => ⟨fun r rest h hr => ⟨fun hm hcomes => ?_, fun hm hout => ?_, fun hm hout hp => ?_,
      fun hm hout => ?_, fun hm hp hout => ?_⟩, fun hm hp hhead => ?_, fun hm => exec_csRise_uart hheld hm⟩,
    fun s b r rest hheld hm h hout => ⟨fun hr => ?_, fun hr => ?_⟩, fun s wire hheld hwire => ?_⟩
  · rw [exec_replyLeavesQueue_uart hheld hm h hcomes, State.replyLeaves_plain (s := s.upTo _) h hr]
    rfl
  · have hpass := State.passHead_of_complete (HostPort.headComplete_of_le h hout)
    rw [exec_replyLeavesQueue_spi hheld hm h, Nat.sub_eq_zero_of_le hout, State.clockFill_zero, hpass,
      State.replyLeaves_plain h hr]
  · obtain ⟨n, hn⟩ := Nat.exists_eq_add_of_lt hout
    have hfill : r.size - s.port.outPos = n + 1 := by omega
    rw [exec_replyLeavesQueue_spi hheld hm h, hfill, State.clockFill_hunting hr n hheld hm h hp hn.symm]
  · exact ⟨_, exec_parserByteTaken hheld _, exec_replyLeavesQueue_after_fill hheld hm h hout⟩
  · have hpass := (State.passHead_of_complete (HostPort.headComplete_of_le h hout)).trans (State.replyLeaves_plain h hr)
    rw [exec_csRise_spi hheld hm, State.csRise_outside (hpass.symm ▸ hp), hpass]
    rfl
  · have hpass := State.passHead_of_incomplete hhead
    rw [exec_csRise_spi hheld hm, State.csRise_outside (hpass.symm ▸ hp), hpass]
  · have hfree : (s.setPort { s.port with replies := rest, outPos := 0, headSince := s.now }).held = false := hheld
    rw [exec_parserByteTaken hheld, exec_parserByteTaken hfree, State.hostByte_of_complete hm h hout hr]
  · rw [exec_parserByteTaken hheld, State.hostByte_of_reset hm h hout hr]
    exact ⟨_, rfl, State.resetByRequest_inReset s, s.resetByRequest_held⟩
  · obtain rfl : wire = replyFrame := funext fun r => (hwire r).trans (replyFrame_eq r).symm
    refine ⟨replyFrame_length, rfl, State.sdoByte_of_empty hheld,
      fun r rest hm h => ⟨State.sdoByte_of_head hheld hm h, State.sdoByte_of_complete hheld hm h⟩,
      State.txd_of_empty hheld, fun r rest n hm h hn => ?_⟩
    have hperiods : s.port.txPeriods (s.now - s.port.headSince) = n := hn.symm
    refine (State.txd_of_head hheld hm h).trans (congrArg some ?_)
    rw [hperiods]
    exact txdLevel_eq r n

end Sys2Proof.Machine
end

section
namespace Sys2Proof.Machine

/-! ## The reset state (O3, O54) -/

theorem State.reset_station (i : StationId) : State.reset.station i = Station.reset := by
  simp [State.station, State.reset]

theorem State.reset_source (src : SourceId) : State.reset.source src = Source.reset := by
  simp [State.source, State.reset]

/-- Settles O3: each block by its own reset value, each station and each source by the one record they all start from. -/
theorem resetState : Obligations.ResetState := by
  unfold Obligations.ResetState
  exact ⟨rfl, rfl, rfl, rfl, rfl, rfl, rfl, rfl, rfl, rfl, rfl, rfl, rfl, rfl, rfl, rfl, rfl,
    State.reset_station, rfl, rfl, rfl, State.reset_source⟩

/-- A part right after its reset is as a device reset leaves it (R175). -/
theorem State.deviceReset_reset : State.reset.deviceReset = State.reset := rfl

/-- The line is OFF and the engine STOPPED, with no gap and no attempt (R24, R72, R92). -/
theorem State.deviceReset_lineSafe (s : State) : s.deviceReset.lineSafe :=
  s.deviceReset.lineSafe_iff.mpr (inStep_atRest rfl)

/-- Settles O54: every device reset leaves each invariant, and `State.reset` is as a device reset leaves it. -/
theorem resetIsSafe : Obligations.ResetIsSafe := by
  unfold Obligations.ResetIsSafe
  rw [← State.deviceReset_reset]
  obtain ⟨hlist, hwaiting⟩ := State.reset.deviceReset_txnsSafe
  exact ⟨State.deviceReset_portSafe _, State.deviceReset_configSafe _, tableSafe_nil, State.deviceReset_eventsSafe _,
    State.deviceReset_stationsSafe _, State.deviceReset_lineSafe _, (State.listSafe_iff _).mpr hlist, hwaiting,
    State.deviceReset_inboundSafe _⟩

end Sys2Proof.Machine
end

section
namespace Sys2Proof.Machine

/-! ## The queue of commands in every command (O2) -/

/-! ### Time -/

theorem State.whenFree_pending {s : State} {f : State → State} (hf : (f s).pending = s.pending) :
    (s.whenFree f).pending = s.pending :=
  State.whenFree_keeps (P := fun t => t.pending = s.pending) rfl fun _ => hf

theorem State.atMoment_pending {f : State → State} (hf : ∀ u, (f u).pending = u.pending) (s : State)
    (d : Option Time) : (s.atMoment d f).pending = s.pending :=
  State.atMoment_keeps (P := fun t => t.pending = s.pending) rfl fun m _ => hf (s.upTo m)

/-! ### The Host Port -/

@[simp] theorem State.resetByRequest_pending (s : State) : s.resetByRequest.pending = s.pending := rfl

@[simp] theorem State.replyLeaves_pending (s : State) : s.replyLeaves.pending = s.pending := by
  unfold State.replyLeaves
  split
  · rfl
  · split <;> rfl

@[simp] theorem State.passHead_pending (s : State) : s.passHead.pending = s.pending := by
  unfold State.passHead
  split <;> simp

@[simp] theorem State.clockOut_pending (s : State) : s.clockOut.pending = s.pending := by
  unfold State.clockOut
  split <;> simp

theorem State.executeRequest_pending (s : State) (kind : Byte) (b : Bytes) :
    (s.executeRequest kind b).1.pending = s.pending := by
  unfold State.executeRequest
  split
  · rfl
  · next q _ => exact q.answer_pending b s

theorem State.dispatch_pending (s : State) (tag kind : Byte) (b : Bytes) :
    (s.dispatch tag kind b).pending = s.pending := by
  obtain ⟨-, h⟩ | ⟨-, h⟩ | ⟨-, -, ⟨r, h⟩ | ⟨c, r, h⟩⟩ := s.dispatch_cases tag kind b
  · rw [h]
  · rw [h, State.frameError_pending]
  · rw [h, State.setPort_pending]
  · rw [h, State.replyAndRemember_pending, State.executeRequest_pending]

/-- A complete frame, dispatched. -/
theorem State.frameComplete_dispatch_pending (s : State) (tag kind : Byte) (b : Bytes) :
    (s.frameComplete.dispatch tag kind b).pending = s.pending := s.frameComplete.dispatch_pending tag kind b

theorem State.judgeHostFrame_pending (s : State) (tag kind : Byte) (b : Bytes) (chk : BitVec 16) :
    (s.judgeHostFrame tag kind b chk).pending = s.pending := by
  unfold State.judgeHostFrame
  split
  · exact s.frameComplete_dispatch_pending tag kind b
  · exact s.frameComplete.frameError_pending .check

theorem State.lengthTaken_pending (s : State) (n : Nat) : (s.lengthTaken n).pending = s.pending := by
  unfold State.lengthTaken
  split
  · rfl
  · exact s.frameError_pending .oversize

/-- No byte touches the commands still to come. -/
theorem State.parseByte_keeps_pending (s : State) (b : Byte) : (s.parseByte b).pending = s.pending := by
  obtain ⟨p, h⟩ | ⟨e, h⟩ | h | ⟨tag, kind, body, h⟩ := s.parseByte_cases b
  · rw [h, State.setPort_pending]
  · rw [h, State.frameError_pending]
  · rw [h, State.frameError_pending, State.frameComplete_pending]
  · rw [h, State.frameComplete_dispatch_pending]

theorem State.hostByte_pending (s : State) (b : Byte) : (s.hostByte b).pending = s.pending := by
  cases hm : s.port.mode with
  | spi =>
    rw [State.hostByte_spi hm, State.whenFree_pending (s.clockOut.byteSeen.parseByte_keeps_pending b),
      State.clockOut_pending]
  | uart => rw [State.hostByte_uart hm, State.whenFree_pending (s.byteSeen.parseByte_keeps_pending b)]

theorem State.clockFill_pending (n : Nat) (s : State) : (s.clockFill n).pending = s.pending := by
  induction n generalizing s with
  | zero => rfl
  | succ n ih => rw [State.clockFill_succ, ih, State.hostByte_pending]

theorem State.csRise_pending (s : State) : s.csRise.pending = s.pending := by
  unfold State.csRise
  dsimp only
  split <;> simp

/-! ### Resets and the stuck line -/

theorem State.monitored_pending (s : State) (m : StuckMonitor) : (s.monitored m).pending = s.pending := by
  unfold State.monitored
  split <;> simp

theorem State.endCause_pending (s : State) (c : ReleaseCause) (modeHigh baudHigh : Bool) :
    (s.endCause c modeHigh baudHigh).pending = s.pending := by
  unfold State.endCause
  dsimp only
  split <;> rfl

/-! ### Every command -/

/-- Every command but the three resets comes to an effect that a free part takes and a held part ignores (R175), and no such
effect touches the commands still to come. -/
theorem exec_whenFree {c : Instr} (hpin : c ≠ .resetPinLow) (hpower : c ≠ .powerOn)
    (hrelease : ∀ k m b, c ≠ .resetRelease k m b) :
    ∃ f : State → State, (∀ s, exec c s = .next (s.whenFree f)) ∧ ∀ s, (f s).pending = s.pending := by
  cases c
  case resetPinLow => exact absurd rfl hpin
  case powerOn => exact absurd rfl hpower
  case resetRelease k m b => exact absurd rfl (hrelease k m b)
  case check tag kind body chk => exact ⟨_, fun _ => rfl, fun s => s.judgeHostFrame_pending tag kind body chk⟩
  case oversize len => exact ⟨_, fun _ => rfl, fun s => s.byteSeen.lengthTaken_pending len.toNat⟩
  case timeout => exact ⟨_, fun _ => rfl, fun s => s.atMoment_pending (fun u => u.frameError_pending _) _⟩
  case csRise =>
    refine ⟨_, fun _ => rfl, fun s => ?_⟩
    split
    · exact s.csRise_pending
    · rfl
  case replyLeavesQueue =>
    refine ⟨_, fun _ => rfl, fun s => ?_⟩
    split
    · exact s.atMoment_pending State.replyLeaves_pending _
    · split
      · rfl
      · rw [State.passHead_pending, State.clockFill_pending]
  case parserByteTaken b => exact ⟨_, fun _ => rfl, fun s => s.hostByte_pending b⟩
  case settleTimerExpiry => exact ⟨_, fun _ => rfl, fun s => s.atMoment_pending State.settleExpired_pending _⟩
  case trigEdge => exact ⟨_, fun _ => rfl, State.trigEdge_pending⟩
  case roundStart => exact ⟨_, fun _ => rfl, fun s => s.atMoment_pending (fun u => u.startRound_pending _) _⟩
  case segmentFrame => exact ⟨_, fun _ => rfl, fun s => s.atMoment_pending State.sendSegment_pending _⟩
  case gapOpening => exact ⟨_, fun _ => rfl, fun s => s.atMoment_pending State.openGap_pending _⟩
  case gapEnd => exact ⟨_, fun _ => rfl, fun s => s.atMoment_pending State.closeGap_pending _⟩
  case roundEndStopping => exact ⟨_, fun _ => rfl, fun s => s.atMoment_pending State.enterStopped_pending _⟩
  case frameSent =>
    refine ⟨_, fun _ => rfl, fun s => s.atMoment_pending (fun u => ?_) _⟩
    split <;> simp
  case contention bit high => exact ⟨_, fun _ => rfl, fun s => s.atMoment_pending State.contend_pending _⟩
  case guardEnd => exact ⟨_, fun _ => rfl, fun s => s.atMoment_pending State.guardEnded_pending _⟩
  case stationStart low =>
    refine ⟨_, fun _ => rfl, fun s => ?_⟩
    split
    · exact s.stationStart_pending
    · rfl
  case responseTimerExpiry => exact ⟨_, fun _ => rfl, fun s => s.atMoment_pending State.responseExpired_pending _⟩
  case decodedFrame ts =>
    refine ⟨_, fun _ => rfl, fun s => ?_⟩
    dsimp only
    split
    · rfl
    · exact s.atMoment_pending (fun u => u.deliver_pending _ _) _
  case talkLimitExpiry => exact ⟨_, fun _ => rfl, fun s => s.atMoment_pending State.talkExpired_pending _⟩
  case reclaimEnd => exact ⟨_, fun _ => rfl, fun s => s.atMoment_pending State.reclaimed_pending _⟩
  case lineFault levels =>
    refine ⟨_, fun _ => rfl, fun s => ?_⟩
    split
    · exact s.atMoment_pending (fun u => u.monitored_pending _) _
    · rfl
  all_goals exact ⟨_, fun _ => rfl, fun s => s.frameComplete_dispatch_pending _ _ _⟩

/-- A release of a cause that does not hold the part changes nothing, and another one ends the cause, at the hold's end at its
moment (R175, log 14). -/
theorem exec_resetRelease_pending (k : ReleaseCause) (m b : Bool) (s : State) :
    ∃ t, exec (.resetRelease k m b) s = .next t ∧ t.pending = s.pending := by
  refine ⟨_, rfl, ?_⟩
  split
  · rfl
  · split
    · exact s.endCause_pending _ m b
    · exact s.endCause_pending _ m b
    · exact s.atMoment_pending (fun u => u.endCause_pending _ m b) _

/-- Settles O2: the resets one by one, every other command by the effect it comes to. -/
theorem everyCommandEndsInANextState : Obligations.EveryCommandEndsInANextState := by
  unfold Obligations.EveryCommandEndsInANextState
  intro c s
  by_cases hpin : c = .resetPinLow
  · exact hpin ▸ ⟨_, rfl, rfl⟩
  by_cases hpower : c = .powerOn
  · exact hpower ▸ ⟨_, rfl, rfl⟩
  by_cases hrelease : ∃ k m b, c = .resetRelease k m b
  · obtain ⟨k, m, b, rfl⟩ := hrelease
    exact exec_resetRelease_pending k m b s
  · obtain ⟨f, hexec, hf⟩ := exec_whenFree hpin hpower fun k m b e => hrelease ⟨k, m, b, e⟩
    exact ⟨_, hexec s, State.whenFree_pending (hf s)⟩

end Sys2Proof.Machine
end

section
namespace Sys2Proof.Machine

/-! ## The reset commands (O4) -/

/-- SDO is not driven while the part is held (R175). -/
theorem State.sdoByte_of_held {s : State} (h : s.held = true) (cs : Bool) : s.sdoByte cs = none :=
  if_neg fun ⟨_, _, hfree, _⟩ => by rw [h] at hfree; cases hfree

/-- TXD is high while the part is held (R175). -/
theorem State.txd_of_held {s : State} (h : s.held = true) : s.txd = some true := if_pos h

/-- A reset that holds the part: every block in its reset state, and the pins released (R175). -/
theorem State.deviceReset_setHold {s : State} {h : Hold} (hheld : h.held = true) :
    (s.deviceReset.setHold h).inReset ∧ (s.deviceReset.setHold h).now = s.now
      ∧ (s.deviceReset.setHold h).pending = s.pending ∧ (s.deviceReset.setHold h).hold = h
      ∧ (s.deviceReset.setHold h).lineDriverOn = false ∧ (s.deviceReset.setHold h).attnLow = false
      ∧ (∀ cs, (s.deviceReset.setHold h).sdoByte cs = none) ∧ (s.deviceReset.setHold h).txd = some true :=
  ⟨rfl, rfl, rfl, rfl, rfl, rfl, State.sdoByte_of_held hheld, State.txd_of_held hheld⟩

/-- The last cause ends: the straps are sampled, and every block starts from its reset state (R156, R175). -/
theorem State.endCause_last {s : State} {c : ReleaseCause} (h : (s.hold.without c).held = false)
    (modeHigh baudHigh : Bool) :
    s.endCause c modeHigh baudHigh = (s.deviceReset.setHold (s.hold.without c)).setPort
      { HostPort.reset with mode := modeOf modeHigh, baudHigh := baudHigh } := if_neg (by simp [h])

/-- While another cause is left the part stays held as it is (R175). -/
theorem State.endCause_held {s : State} {c : ReleaseCause} (h : (s.hold.without c).held = true)
    (modeHigh baudHigh : Bool) : s.endCause c modeHigh baudHigh = s.setHold (s.hold.without c) := if_pos h

/-- The part that a release has started: its blocks, its straps, its time and its commands (R156, R175). -/
theorem State.endCause_starts {s : State} {c : ReleaseCause} (h : (s.hold.without c).held = false)
    (modeHigh baudHigh : Bool) :
    (s.endCause c modeHigh baudHigh).inReset ∧ (s.endCause c modeHigh baudHigh).held = false
      ∧ (s.endCause c modeHigh baudHigh).port.mode = (if modeHigh = true then .uart else .spi)
      ∧ (s.endCause c modeHigh baudHigh).port.baudHigh = baudHigh ∧ (s.endCause c modeHigh baudHigh).now = s.now
      ∧ (s.endCause c modeHigh baudHigh).pending = s.pending := by
  rw [State.endCause_last h]
  exact ⟨rfl, h, rfl, rfl, rfl, rfl⟩

theorem exec_resetRelease_pinHigh {s : State} (h : s.hold.pinLow = true) (m b : Bool) :
    exec (.resetRelease .pinHigh m b) s = .next (s.endCause .pinHigh m b) :=
  congrArg Host.Outcome.next (if_neg (by simp [Hold.has, h]))

theorem exec_resetRelease_powerGood {s : State} (h : s.hold.powerAbsent = true) (m b : Bool) :
    exec (.resetRelease .powerGood m b) s = .next (s.endCause .powerGood m b) :=
  congrArg Host.Outcome.next (if_neg (by simp [Hold.has, h]))

/-- The hold of RESET DEVICE ends at its moment (R175). -/
theorem exec_resetRelease_holdEnd {s : State} {e : Time} (h : s.hold.holdEnd = some e) (hcomes : s.comes e) (m b : Bool) :
    exec (.resetRelease .holdEnd m b) s = .next ((s.upTo e).endCause .holdEnd m b) := by
  have hdue : s.dueAt .holdEnd = some e := h
  refine congrArg Host.Outcome.next ((if_neg (by simp [Hold.has, h])).trans ?_)
  dsimp only
  rw [hdue]
  exact State.atMoment_comes hcomes _

/-- Settles O4: the resets by `State.deviceReset`, a release by the causes it leaves, and the held part by the form of every
other command. -/
theorem resetCommands : Obligations.ResetCommands := by
  unfold Obligations.ResetCommands
  refine ⟨fun s => ⟨⟨_, rfl, State.deviceReset_setHold rfl⟩, ⟨_, rfl, State.deviceReset_setHold ?_⟩⟩,
    fun s m b => ⟨fun h => ?_, fun h => ?_, fun e h hcomes => ?_, fun hpin hleft => ?_, fun hpower hleft => ?_⟩,
    fun c s hheld hpin hpower hrelease => ?_⟩
  · simp [Hold.held]
  · exact ⟨_, exec_resetRelease_pinHigh (by rw [h]) m b, State.endCause_starts (by rw [h]; rfl) m b⟩
  · exact ⟨_, exec_resetRelease_powerGood (by rw [h]) m b, State.endCause_starts (by rw [h]; rfl) m b⟩
  · have hfree : ((s.upTo e).hold.without .holdEnd).held = false := by rw [State.upTo_hold, h]; rfl
    exact ⟨_, exec_resetRelease_holdEnd (by rw [h]) hcomes m b, State.endCause_starts hfree m b⟩
  · have hheld : (s.hold.without .pinHigh).held = true := by simpa [Hold.without, Hold.held] using hleft
    exact (exec_resetRelease_pinHigh hpin m b).trans (congrArg Host.Outcome.next (State.endCause_held hheld m b))
  · have hheld : (s.hold.without .powerGood).held = true := by simpa [Hold.without, Hold.held] using hleft
    exact (exec_resetRelease_powerGood hpower m b).trans (congrArg Host.Outcome.next (State.endCause_held hheld m b))
  · obtain ⟨f, hexec, -⟩ := exec_whenFree hpin hpower hrelease
    rw [hexec, State.whenFree_of_held hheld]

end Sys2Proof.Machine
end

section
namespace Sys2Proof.Machine

/-! ## What a request may change (O12) -/

/-! ### Read requests -/

theorem decodeEmpty_ne_wrongState {b : Bytes} {e : Status} (h : decodeEmpty b = .error e) : e ≠ .wrongState := by
  unfold decodeEmpty at h
  split at h <;> cases h
  nofun

theorem decodeIndex_ne_wrongState {k : Nat} {b : Bytes} {e : Status} (h : decodeIndex k b = .error e) :
    e ≠ .wrongState := by
  unfold decodeIndex at h
  split at h
  · cases h
    nofun
  · split at h <;> cases h
    nofun

theorem decodeCount_ne_wrongState {top : Nat} {b : Bytes} {e : Status} (h : decodeCount top b = .error e) :
    e ≠ .wrongState := by
  unfold decodeCount at h
  split_ifs at h <;> cases h <;> nofun

/-- This work leaves the state, and is never refused for the state of the engine (R170). -/
def State.onlyReads (s : State) (x : State × Answer) : Prop := x.1 = s ∧ x.2.status ≠ .wrongState

theorem State.onlyReads_refuse {s : State} {e : Status} (h : e ≠ .wrongState) : s.onlyReads (s.refuse e) := ⟨rfl, h⟩

theorem State.onlyReads_ok (s : State) (fields : Bytes) : s.onlyReads (s, .ok fields) := ⟨rfl, nofun⟩

/-- A read request takes its body and gives its fields; only READ SEGMENT looks for something more (R44, R170). -/
theorem Request.answer_onlyReads {q : Request} (hq : q.reads = true) (b : Bytes) (s : State) :
    s.onlyReads (q.answer b s) := by
  cases q
  case identify | readLine | readRound | readEvents =>
    simp only [Request.answer, answerIdentify, answerReadLine, answerReadRound, answerReadEvents]
    split
    · next e he => exact State.onlyReads_refuse (decodeEmpty_ne_wrongState he)
    · exact s.onlyReads_ok _
  case readStation =>
    simp only [Request.answer, answerReadStation]
    split
    · next e he => exact State.onlyReads_refuse (decodeIndex_ne_wrongState he)
    · exact s.onlyReads_ok _
  case readQueue | fetchReports =>
    simp only [Request.answer, answerReadQueue, answerFetchReports]
    split
    · next e he => exact State.onlyReads_refuse (decodeCount_ne_wrongState he)
    · exact s.onlyReads_ok _
  case readSegment =>
    simp only [Request.answer, answerReadSegment]
    split
    · next e he => exact State.onlyReads_refuse (decodeIndex_ne_wrongState he)
    · split
      · exact State.onlyReads_refuse nofun
      · exact s.onlyReads_ok _
  all_goals cases hq

/-! ### Refusals -/

/-- This work is a refusal, or it is answered OK: nothing is changed and then refused (R169). -/
def State.refusedOrDone (s : State) (x : State × Answer) : Prop := x.2.status ≠ .ok → x = s.refuse x.2.status

@[simp] theorem State.refusedOrDone_refuse (s : State) (e : Status) : s.refusedOrDone (s.refuse e) := fun _ => rfl

@[simp] theorem State.refusedOrDone_ok (s u : State) (fields : Bytes) : s.refusedOrDone (u, .ok fields) :=
  fun h => absurd rfl h

/-- Each request by its checks behind those of its body: each of them refuses, and the work stands behind all of them. -/
theorem Request.answer_refusedOrDone (q : Request) (b : Bytes) (s : State) : s.refusedOrDone (q.answer b s) := by
  cases q
  -- no check behind those of the body
  case identify | resetDevice | readLine | readRound | stop | readEvents | enableStation | disableStation | readStation
      | readQueue | configureInbound | takeMessages | fetchReports | maskEvents =>
    simp only [Request.answer, answerIdentify, answerResetDevice, answerReadLine, answerReadRound, answerStop,
      answerReadEvents, answerEnableStation, answerDisableStation, answerReadStation, answerReadQueue,
      answerConfigureInbound, answerTakeMessages, answerFetchReports, answerMaskEvents]
    split <;> simp
  -- one more check
  case configureLine | configureRound | readSegment | submit | ackReports | ackEvent =>
    simp only [Request.answer, answerConfigureLine, answerConfigureRound, answerReadSegment, answerSubmit,
      answerAckReports, answerAckEvent]
    split
    · simp
    · split <;> simp
  -- two more checks; CANCEL's second is that of the record's state, with two ways to go on (R61)
  case defineSegment | deleteSegment | updateSegment | start | configureStation | cancel =>
    simp only [Request.answer, answerDefineSegment, answerDeleteSegment, answerUpdateSegment, answerStart,
      answerConfigureStation, answerCancel]
    split
    · simp
    · split
      · simp
      · split <;> simp

/-- Settles O12: a read request's work is `State.onlyReads`, and every request's work is `State.refusedOrDone`. -/
theorem whatARequestMayChange : Obligations.WhatARequestMayChange := by
  unfold Obligations.WhatARequestMayChange
  refine ⟨fun q tag body s hq h => ?_, fun q tag body s h hstatus => ?_⟩
  · obtain ⟨hstate, hstatus⟩ := q.answer_onlyReads hq body s
    refine ⟨_, (q.answer body s).2.fields, (exec_request h).trans ?_, hstatus⟩
    rw [hstate]
  · exact exec_of_refused h (q.answer_refusedOrDone body s hstatus)

end Sys2Proof.Machine
end

section
namespace Sys2Proof.Machine

/-! ## IDENTIFY and READ LINE (O13, O14) -/

/-- The reply of IDENTIFY, byte by byte (R171, R180). -/
theorem answerIdentify_ok {b : Bytes} (s : State) (hb : b.length = 0) :
    answerIdentify b s = (s, .ok
      [0x08, 0x46, 2, if s.port.mode = .uart then 1 else 0, if s.port.baudHigh = true then 1 else 0, 8, 4, 32,
        0x00, 0x10, 48, 40, 16, 0x00, 0x08, 88, 48, 4, 0x04, 0x04]) := by
  rw [answerIdentify, decodeEmpty_of_eq hb]
  simp only [leBool_eq, beq_iff_eq]
  rfl

/-- Settles O13: a body is refused, and without one the reply is that of `answerIdentify_ok`. -/
theorem identifyReply : Obligations.IdentifyReply := by
  unfold Obligations.IdentifyReply
  intro tag body s h
  split
  · next hb =>
    exact exec_of_refused (q := .identify) h (by rw [Request.answer, answerIdentify, decodeEmpty_of_ne hb])
  · next hb => exact exec_of_ok (q := .identify) h (answerIdentify_ok s (not_not.mp hb))

theorem leBool_eq_le1 (v : Bool) : leBool v = le1 (if v = true then 1 else 0) := by cases v <;> rfl

/-- The line is OFF in STOPPED and HALTED (R24). -/
theorem State.lineSafe.off {s : State} (h : s.lineSafe) (hr : s.engine.state.atRest = true) :
    s.line.activity.state = .off := by
  obtain ⟨hoff, -⟩ := h
  rw [hoff.mpr hr]
  rfl

/-- The line is QUIET in SETTLING (R26). -/
theorem State.lineSafe.quiet {s : State} (h : s.lineSafe) (hs : s.engine.state = .settling) :
    s.line.activity.state = .quiet := by
  obtain ⟨-, hquiet, -⟩ := h
  exact eq_of_beq (hquiet hs)

/-- The reply of READ LINE (R172, R180). -/
theorem answerReadLine_ok {b : Bytes} (s : State) (hb : b.length = 0) :
    answerReadLine b s = (s, .ok
      (s.line.config.bytes ++ le1 s.line.activity.state.code ++ le2 s.line.contentions)) := by
  rw [answerReadLine, decodeEmpty_of_eq hb]

/-- Settles O14: the fields are `LineConfig.bytes` with each state's code, and the line state follows from `State.lineSafe`. -/
theorem readLineReply : Obligations.ReadLineReply := by
  unfold Obligations.ReadLineReply
  intro tag body s h
  refine ⟨?_, fun hsafe hrest => hsafe.off ?_, fun hsafe hs => hsafe.quiet hs⟩
  · split
    · next hb =>
      exact exec_of_refused (q := .readLine) h (by rw [Request.answer, answerReadLine, decodeEmpty_of_ne hb])
    · next hb =>
      refine (exec_of_ok (q := .readLine) h (answerReadLine_ok s (not_not.mp hb))).trans ?_
      rw [LineConfig.bytes, leBool_eq_le1]
      cases s.line.activity.state <;> rfl
  · rcases hrest with hrest | hrest <;> rw [hrest] <;> rfl

end Sys2Proof.Machine
end

section
namespace Sys2Proof.Machine

/-! ## The step (O1) -/

/-- With a command waiting, the step is that command's meaning; the queue keeps the rest (log 5). -/
theorem step_of_front {s : State} {c : Instr} {rest : List Instr} (h : s.pending = c :: rest) :
    step s = exec c (s.setPending rest) := by
  rw [step, h]

/-- With no command waiting, the part acts on its own (log 2). -/
theorem step_of_empty {s : State} (h : s.pending = []) : step s = s.idle := by
  rw [step, h]

/-- Left alone with an event due, the part takes that event (log 3). -/
theorem State.idle_of_due {s : State} {e : Timed} (h : s.dueNow = some e) : s.idle = exec (s.commandOf e) s := by
  rw [State.idle, h]

/-- Left alone with no event due, the part lets one unit of time pass (log 2). -/
theorem State.idle_of_not_due {s : State} (h : s.dueNow = none) : s.idle = .next (s.setNow (s.now + 1)) := by
  rw [State.idle, h]

/-- Settles O1: the queue has a front command or is empty, and on an empty queue an event is due or none is. -/
theorem stepRunsTheFrontCommand : Obligations.StepRunsTheFrontCommand := by
  unfold Obligations.StepRunsTheFrontCommand
  refine ⟨fun _ _ _ hfront => step_of_front hfront, fun s hempty => ⟨fun hnone => ?_, fun e hdue => ?_⟩⟩
  · exact (step_of_empty hempty).trans (State.idle_of_not_due hnone)
  · exact (step_of_empty hempty).trans (State.idle_of_due hdue)

end Sys2Proof.Machine
end
